-- ==== Sys2Proof/Word.lean ====
section
/-! DEFINITION. The value types the spec names: bytes, bits, brightness levels, the two lines,
and the words of the four formats (00_scope.md section 5, 30_encoding.md R68 to R71). -/

namespace Sys2Proof

/-- An unsigned integer 0..255 (00_scope.md 5.1). -/
abbrev Byte := BitVec 8

/-- A line level or a one-bit field: `false` is 0 (low), `true` is 1 (high). -/
abbrev Bit := Bool

/-- A 5-bit brightness level, 0..31 (10_state.md R16). -/
abbrev Level5 := BitVec 5

/-- A brightness operand: the rationals and three special values (00_scope.md 5.2). -/
inductive Level where
  | negInf
  | posInf
  | nan
  | fin (q : Rat)
  deriving DecidableEq, Repr, Inhabited

/-- The two locations of the line space (20_memory.md R40). -/
inductive Line where
  | data
  | clk
  deriving DecidableEq, Repr

/-- A word of one of the formats; the format is known from the port the word arrives on
(30_encoding.md R77). `w32` and `w36` are the wire frames (R61 to R63), first-sent bit most significant. -/
inductive Word where
  | d (w : BitVec 40)
  | p (w : BitVec 28)
  | g (w : BitVec 4)
  | w32 (w : BitVec 32)
  | w36 (w : BitVec 36)
  deriving DecidableEq, Repr

/-- A word that DRV puts on a port of its own: a P-format word for a PIXCELL, a G-format word for the
collaborator (30_encoding.md R67, R71, R77), or a wire frame it is about to send (R61 to R63). -/
inductive UnitWord where
  | p (w : BitVec 28)
  | g (w : BitVec 4)
  | w32 (w : BitVec 32)
  | w36 (w : BitVec 36)
  deriving DecidableEq, Repr

/-- The word with its format. -/
def UnitWord.toWord : UnitWord → Word
  | .p w => .p w
  | .g w => .g w
  | .w32 w => .w32 w
  | .w36 w => .w36 w

/-- What stands on the operand port LVL: a level, or a bit pattern whose meaning the OPEN parameter
LEVEL_REPR gives (00_scope.md R5, 5.2; decision D4). -/
inductive LvlInput where
  | level (l : Level)
  | bits (w : Nat)
  deriving DecidableEq, Repr

end Sys2Proof
end

