-- ==== Sys2Proof/Syntax.lean ====
section
/-! DEFINITION. The operations as syntax: one constructor per row of spec/opcode_table.json. A `Level`
operand is not part of a word: it stands on the port LVL (30_encoding.md R67). -/

namespace Sys2Proof

/-- The 21 rows: D-format (30_encoding.md R69), P-format (R70), G-format (R71), wire frames (R61 to R63). -/
inductive Instr where
  /-- CONSTRUCT; `cot` is bit 0 of the word. -/
  | construct (cot : Bit)
  | transmit
  /-- GETPIX; the index is a natural number, of which the word carries 8 bits (20_memory.md R41). -/
  | getpix (index : Nat)
  /-- SETPIX; the level is on LVL. -/
  | setpix (index : Nat) (r g b : Byte)
  /-- SETALL; the level is on LVL. -/
  | setall (r g b : Byte)
  | clrall
  | teardown
  | getrgb
  | getrgbl
  | setrgb (r g b : Byte)
  /-- SETBRT; the level is on LVL. -/
  | setbrt
  /-- SETRGBL; the level is on LVL. -/
  | setrgbl (r g b : Byte)
  | clr
  | serbytes
  /-- OPEN; the chip path is a side operand. -/
  | openchip
  /-- REQLINE; line number and label are side operands. -/
  | reqline (sel : Line) (val : Bit)
  | setval (sel : Line) (val : Bit)
  | release (sel : Line)
  | sof
  | ledframe (level5 : Level5) (blue green red : Byte)
  | eof
  deriving DecidableEq, Repr

/-- The format of an operation's word (30_encoding.md R69 to R71; `w` the wire frames, R61 to R63). -/
inductive Format where
  | d
  | p
  | g
  | w
  deriving DecidableEq, Repr

/-- Which port an operation's word arrives on (30_encoding.md R77). -/
def Instr.format : Instr → Format
  | .construct _ => .d
  | .transmit => .d
  | .getpix _ => .d
  | .setpix _ _ _ _ => .d
  | .setall _ _ _ => .d
  | .clrall => .d
  | .teardown => .d
  | .getrgb => .p
  | .getrgbl => .p
  | .setrgb _ _ _ => .p
  | .setbrt => .p
  | .setrgbl _ _ _ => .p
  | .clr => .p
  | .serbytes => .p
  | .openchip => .g
  | .reqline _ _ => .g
  | .setval _ _ => .g
  | .release _ => .g
  | .sof => .w
  | .ledframe _ _ _ _ => .w
  | .eof => .w

end Sys2Proof
end

