-- ==== Sys2Proof/WellFormed.lean ====
section
/-! DEFINITION. Which instructions a word can carry. Every operand but the index has the exact width of
its field; an index above 255 "cannot be expressed in the command word" (30_encoding.md R73). -/

namespace Sys2Proof

/-- The index fits the 8-bit idx field (30_encoding.md R68, R73). -/
def indexEncodable (index : Nat) : Bool := index < 256

/-- The instruction has a word. -/
def Instr.wellFormed : Instr → Bool
  | .construct _ => true
  | .transmit => true
  | .getpix index => indexEncodable index
  | .setpix index _ _ _ => indexEncodable index
  | .setall _ _ _ => true
  | .clrall => true
  | .teardown => true
  | .getrgb => true
  | .getrgbl => true
  | .setrgb _ _ _ => true
  | .setbrt => true
  | .setrgbl _ _ _ => true
  | .clr => true
  | .serbytes => true
  | .openchip => true
  | .reqline _ _ => true
  | .setval _ _ => true
  | .release _ => true
  | .sof => true
  | .ledframe _ _ _ _ => true
  | .eof => true

end Sys2Proof
end

