-- ==== Sys2Proof/Decode.lean ====
section
/-! DEFINITION. The decoder of the command words and wire frames, total, refusing reserved words by
name (30_encoding.md R61 to R63, R68 to R71, R75), and after it the encoder. -/

namespace Sys2Proof

/-- Why a word is reserved: it matches no row of its format (30_encoding.md R75; for the frames R74). -/
inductive DecodeError where
  | reservedD
  | reservedP
  | reservedG
  | reservedFrame
  deriving DecidableEq, Repr

/-- One row of an opcode table: `w` selects it when `w &&& mask = pattern` (30_encoding.md R69). -/
structure Row (n : Nat) where
  pattern : BitVec n
  mask : BitVec n
  deriving DecidableEq, Repr

/-- Does `w` select the row? (30_encoding.md R69) -/
def Row.selects {n : Nat} (row : Row n) (w : BitVec n) : Bool := w &&& row.mask == row.pattern

/-! The rows, as the tables of R69, R70, R71, R61, R62 and R63 print them. -/

def rowConstruct : Row 40 := ⟨0x1000000000, 0xFFFFFFFFFE⟩
def rowTransmit : Row 40 := ⟨0x2000000000, 0xFFFFFFFFFF⟩
def rowGetpix : Row 40 := ⟨0x3000000000, 0xFF00FFFFFF⟩
def rowSetpix : Row 40 := ⟨0x4000000000, 0xFF00000000⟩
def rowSetall : Row 40 := ⟨0x5000000000, 0xFFFF000000⟩
def rowClrall : Row 40 := ⟨0x6000000000, 0xFFFFFFFFFF⟩
def rowTeardown : Row 40 := ⟨0x7000000000, 0xFFFFFFFFFF⟩
def rowGetrgb : Row 28 := ⟨0x1000000, 0xFFFFFFF⟩
def rowGetrgbl : Row 28 := ⟨0x2000000, 0xFFFFFFF⟩
def rowSetrgb : Row 28 := ⟨0x3000000, 0xF000000⟩
def rowSetbrt : Row 28 := ⟨0x4000000, 0xFFFFFFF⟩
def rowSetrgbl : Row 28 := ⟨0x5000000, 0xF000000⟩
def rowClr : Row 28 := ⟨0x6000000, 0xFFFFFFF⟩
def rowSerbytes : Row 28 := ⟨0x7000000, 0xFFFFFFF⟩
def rowOpen : Row 4 := ⟨0x0, 0xF⟩
def rowReqline : Row 4 := ⟨0x4, 0xC⟩
def rowSetval : Row 4 := ⟨0x8, 0xC⟩
def rowRelease : Row 4 := ⟨0xC, 0xD⟩
def rowSof : Row 32 := ⟨0x00000000, 0xFFFFFFFF⟩
def rowLedframe : Row 32 := ⟨0xE0000000, 0xE0000000⟩
def rowEof : Row 36 := ⟨0x000000000, 0xFFFFFFFFF⟩

/-- The D-format table (30_encoding.md R69). -/
def dRows : List (Row 40) :=
  [rowConstruct, rowTransmit, rowGetpix, rowSetpix, rowSetall, rowClrall, rowTeardown]
/-- The P-format table (30_encoding.md R70). -/
def pRows : List (Row 28) :=
  [rowGetrgb, rowGetrgbl, rowSetrgb, rowSetbrt, rowSetrgbl, rowClr, rowSerbytes]
/-- The G-format table (30_encoding.md R71). -/
def gRows : List (Row 4) := [rowOpen, rowReqline, rowSetval, rowRelease]

/-- Does some row of the format's table select the word? A word none selects is reserved (30_encoding.md
R75; R74 for the frames). -/
def Word.matchesRow : Word → Bool
  | .d w => dRows.any (·.selects w)
  | .p w => pRows.any (·.selects w)
  | .g w => gRows.any (·.selects w)
  | .w32 w => rowSof.selects w || rowLedframe.selects w
  | .w36 w => rowEof.selects w

/-- No word selects both rows: the patterns differ in a bit that both masks keep. -/
def Row.disjoint {n : Nat} (a b : Row n) : Bool :=
  (a.pattern ^^^ b.pattern) &&& a.mask &&& b.mask != 0

/-- `sel`: 0 is the data line, 1 the clock line (30_encoding.md R71). -/
def lineOfSel (sel : Bit) : Line := if sel then .clk else .data

/-- The `sel` bit of a line. -/
def selOfLine : Line → Bit
  | .data => false
  | .clk => true

/-- The idx field, bits 31:24 of a D-format word, as a natural number (30_encoding.md R68, R73). -/
def idxField (w : BitVec 40) : Nat := (w.extractLsb' 24 8).toNat

/-- A D-format word (30_encoding.md R68, R69). -/
def decodeD (w : BitVec 40) : Except DecodeError Instr :=
  if rowConstruct.selects w then .ok (.construct (w.getLsbD 0))
  else if rowTransmit.selects w then .ok .transmit
  else if rowGetpix.selects w then .ok (.getpix (idxField w))
  else if rowSetpix.selects w then
    .ok (.setpix (idxField w) (w.extractLsb' 16 8) (w.extractLsb' 8 8) (w.extractLsb' 0 8))
  else if rowSetall.selects w then
    .ok (.setall (w.extractLsb' 16 8) (w.extractLsb' 8 8) (w.extractLsb' 0 8))
  else if rowClrall.selects w then .ok .clrall
  else if rowTeardown.selects w then .ok .teardown
  else .error .reservedD

/-- A P-format word (30_encoding.md R70). -/
def decodeP (w : BitVec 28) : Except DecodeError Instr :=
  if rowGetrgb.selects w then .ok .getrgb
  else if rowGetrgbl.selects w then .ok .getrgbl
  else if rowSetrgb.selects w then
    .ok (.setrgb (w.extractLsb' 16 8) (w.extractLsb' 8 8) (w.extractLsb' 0 8))
  else if rowSetbrt.selects w then .ok .setbrt
  else if rowSetrgbl.selects w then
    .ok (.setrgbl (w.extractLsb' 16 8) (w.extractLsb' 8 8) (w.extractLsb' 0 8))
  else if rowClr.selects w then .ok .clr
  else if rowSerbytes.selects w then .ok .serbytes
  else .error .reservedP

/-- A G-format word (30_encoding.md R71). -/
def decodeG (w : BitVec 4) : Except DecodeError Instr :=
  if rowOpen.selects w then .ok .openchip
  else if rowReqline.selects w then .ok (.reqline (lineOfSel (w.getLsbD 1)) (w.getLsbD 0))
  else if rowSetval.selects w then .ok (.setval (lineOfSel (w.getLsbD 1)) (w.getLsbD 0))
  else if rowRelease.selects w then .ok (.release (lineOfSel (w.getLsbD 1)))
  else .error .reservedG

/-- A 32-bit wire frame, first-sent bit most significant (30_encoding.md R61, R62). -/
def decodeW32 (w : BitVec 32) : Except DecodeError Instr :=
  if rowSof.selects w then .ok .sof
  else if rowLedframe.selects w then
    .ok (.ledframe (w.extractLsb' 24 5) (w.extractLsb' 16 8) (w.extractLsb' 8 8) (w.extractLsb' 0 8))
  else .error .reservedFrame

/-- A 36-bit wire frame (30_encoding.md R63). -/
def decodeW36 (w : BitVec 36) : Except DecodeError Instr :=
  if rowEof.selects w then .ok .eof else .error .reservedFrame

/-- The decoder: the format is known from the port (30_encoding.md R77). -/
def decode : Word → Except DecodeError Instr
  | .d w => decodeD w
  | .p w => decodeP w
  | .g w => decodeG w
  | .w32 w => decodeW32 w
  | .w36 w => decodeW36 w

/-! The encoder. -/

/-- D-format: op, zero, idx, r, g, b (30_encoding.md R68). -/
def wordD (op : BitVec 4) (index : Nat) (r g b : Byte) : Word :=
  .d (op ++ (0#4 : BitVec 4) ++ BitVec.ofNat 8 index ++ r ++ g ++ b)

/-- P-format: op, r, g, b (30_encoding.md R70). -/
def wordP (op : BitVec 4) (r g b : Byte) : Word := .p (op ++ r ++ g ++ b)

/-- G-format: gop, sel, val (30_encoding.md R71). -/
def wordG (gop : BitVec 2) (sel : Line) (val : Bit) : Word :=
  .g (gop ++ BitVec.ofBool (selOfLine sel) ++ BitVec.ofBool val)

/-- The LED frame: marker 111, level5, blue, green, red (30_encoding.md R62). -/
def ledFrameWord (level5 : Level5) (blue green red : Byte) : BitVec 32 :=
  (0b111#3 : BitVec 3) ++ level5 ++ blue ++ green ++ red

/-- The word of a well-formed instruction (30_encoding.md R61 to R63, R68 to R71). -/
def encode : Instr → Word
  | .construct cot => wordD 0x1 0 0 0 ((0#7 : BitVec 7) ++ BitVec.ofBool cot)
  | .transmit => wordD 0x2 0 0 0 0
  | .getpix index => wordD 0x3 index 0 0 0
  | .setpix index r g b => wordD 0x4 index r g b
  | .setall r g b => wordD 0x5 0 r g b
  | .clrall => wordD 0x6 0 0 0 0
  | .teardown => wordD 0x7 0 0 0 0
  | .getrgb => wordP 0x1 0 0 0
  | .getrgbl => wordP 0x2 0 0 0
  | .setrgb r g b => wordP 0x3 r g b
  | .setbrt => wordP 0x4 0 0 0
  | .setrgbl r g b => wordP 0x5 r g b
  | .clr => wordP 0x6 0 0 0
  | .serbytes => wordP 0x7 0 0 0
  | .openchip => wordG 0b00 .data false
  | .reqline sel val => wordG 0b01 sel val
  | .setval sel val => wordG 0b10 sel val
  | .release sel => wordG 0b11 sel false
  | .sof => .w32 0
  | .ledframe level5 blue green red => .w32 (ledFrameWord level5 blue green red)
  | .eof => .w36 0

/-! The opcode table's numbering (the host's question). -/

/-- The word on its port that the table's row of `nbits` bits (whole bytes, or the row's own width)
and value `w` stands for; none where no port takes such a word. The widths of two formats coincide
when rounded up to bytes, and no assigned word does (log 10): in 32 bits the value 0 is SOF and the
other values below 2^28 are P-format; in 40 bits the value 0 is EOF and the others are D-format. -/
def tableWord (nbits w : Nat) : Option Word :=
  if nbits = 4 ∨ nbits = 8 then if w < 2 ^ 4 then some (.g (BitVec.ofNat 4 w)) else none
  else if nbits = 28 then if w < 2 ^ 28 then some (.p (BitVec.ofNat 28 w)) else none
  else if nbits = 32 then
    if w = 0 ∨ 2 ^ 28 ≤ w then if w < 2 ^ 32 then some (.w32 (BitVec.ofNat 32 w)) else none
    else some (.p (BitVec.ofNat 28 w))
  else if nbits = 36 then if w < 2 ^ 36 then some (.w36 (BitVec.ofNat 36 w)) else none
  else if nbits = 40 then
    if w = 0 then some (.w36 0) else if w < 2 ^ 40 then some (.d (BitVec.ofNat 40 w)) else none
  else none

/-- The instruction the decoder reads from the table's word. -/
def decodeTableWord (nbits w : Nat) : Option Instr :=
  match tableWord nbits w with
  | none => none
  | some word =>
    match decode word with
    | .ok i => some i
    | .error _ => none

end Sys2Proof
end

