-- ==== Sys2Proof/Config.lean ====
section
/-! DEFINITION. What an implementation fixes (00_scope.md R5): the fixed parameters as constants, the
OPEN ones as fields of `Config`, the oracle FAIL as plain data, and the free values. -/

namespace Sys2Proof

/-- The OPEN parameters (00_scope.md R5, 10_state.md R21). DESIGN CHOICE (log 3): they stand in State as
a field that no step writes, so a statement about every state holds for every value of them. -/
structure Config where
  /-- CHIP_PATH: passed to OPEN, which does not interpret it (44_gpio_sim.md R157). -/
  chipPath : String
  /-- DATA_LINE. -/
  dataLine : Nat
  /-- CLK_LINE. -/
  clkLine : Nat
  /-- NUM_LINES: the valid line numbers are those below it (44_gpio_sim.md R160). -/
  numLines : Nat
  /-- LABEL: passed to REQLINE, which stores it nowhere (44_gpio_sim.md R158). -/
  label : String
  /-- DEFAULT_LEVEL5: the level of a new pixel. -/
  defaultLevel5 : Level5
  /-- LEVEL_REPR: which level a bit pattern on LVL stands for. A pattern that is not listed stands for
  the free value `Config.openLevel` of it, so that every representation has this form (log 17). -/
  levelRepr : List (Nat × Level)
  deriving DecidableEq, Repr

/-- DATA_LINE or CLK_LINE (10_state.md R19). -/
def Config.lineNo (cfg : Config) : Line → Nat
  | .data => cfg.dataLine
  | .clk => cfg.clkLine

/-- The values the spec uses as illustrations (95_test_vectors.md V11 and "with d = 6").
DESIGN CHOICE (log 3): `State.reset` takes them; the spec leaves all seven OPEN. -/
def Config.illustration : Config where
  chipPath := ""
  dataLine := 23
  clkLine := 24
  numLines := 54
  label := ""
  defaultLevel5 := 6
  levelRepr := []

namespace Config

/-- NUM_PIXELS (00_scope.md R5, R6). -/
abbrev numPixels : Nat := 8
/-- SOF_PULSES (30_encoding.md R61). -/
abbrev sofPulses : Nat := 32
/-- EOF_PULSES (30_encoding.md R63). -/
abbrev eofPulses : Nat := 36
/-- The number of line writes of a complete transmission (42_transmit.md R121). -/
abbrev numWrites : Nat := 906
/-- MARKER as a byte mask (30_encoding.md R65). -/
abbrev marker : Byte := 0xE0
/-- INIT_DATA (43_lifecycle.md R142, decision D10). -/
abbrev initData : Bit := false
/-- INIT_CLK (43_lifecycle.md R142, decision D10). -/
abbrev initClk : Bit := false

/-- CLEAR_LEVEL: the brightness of `clear_all`, 0.2 (41_driver_ops.md R107). -/
def clearLevel : Level := .fin (mkRat 1 5)

/-- FREE VALUE (log 5): the level5 stored by the k-th use of a NaN operand (93_implementation_defined.md U2). -/
opaque nanLevel5 : Nat → Level5

/-- FREE VALUE (log 6): the level of a line after the failed write that was call number `c` (U3). -/
opaque failedWriteLevel : Nat → Bit

/-- FREE VALUE (log 6): the level of line `n`, which nobody holds, when `c` calls have been made (U6, U7). -/
opaque unheldLevel : Nat → Nat → Bit

/-- FREE VALUE (log 17): the level that LEVEL_REPR gives a bit pattern not listed in `levelRepr` (decision D4). -/
opaque openLevel : Nat → Level

/-- FREE VALUE (log 17): the bit pattern in which LEVEL_REPR renders a level not listed in `levelRepr` (U13). -/
opaque openBits : Level → Nat

/-- FREE VALUE (log 4): what FAIL answers to call number `c`, true for fail, where the oracle is left open (R170). -/
opaque openFail : Nat → Bool

end Config

/-- The level a bit pattern on LVL stands for (00_scope.md 5.2). -/
def Config.levelOfBits (cfg : Config) (w : Nat) : Level := (cfg.levelRepr.lookup w).getD (Config.openLevel w)

/-- The level on the port LVL. -/
def Config.levelOf (cfg : Config) : LvlInput → Level
  | .level l => l
  | .bits w => cfg.levelOfBits w

/-- The bit pattern in which a level is returned (93_implementation_defined.md U13). -/
def Config.bitsOfLevel (cfg : Config) (l : Level) : Nat :=
  ((cfg.levelRepr.find? fun e => e.2 == l).map (·.1)).getD (Config.openBits l)

/-- What FAIL answers to a call whose number is not listed. -/
inductive Answer where
  | ok
  | fail
  /-- Left open: the free value `Config.openFail` of the call number. -/
  | any
  deriving DecidableEq, Repr

/-- Does an unlisted call number `c` fail? -/
def Answer.fails (a : Answer) (c : Nat) : Bool :=
  match a with
  | .ok => false
  | .fail => true
  | .any => Config.openFail c

/-- FAIL, the oracle from call numbers to ok or fail (44_gpio_sim.md R170), as plain data (log 4): a call
whose number is listed gets the other answer than `usual` gives. With `usual = .any` the answers are the
free values `Config.openFail`, which stand for any function of the call number. -/
structure FailOracle where
  usual : Answer
  listed : List Nat
  deriving DecidableEq, Repr

/-- Does call number `c` fail? (44_gpio_sim.md R170) -/
def FailOracle.fails (f : FailOracle) (c : Nat) : Bool := f.usual.fails c != f.listed.contains c

/-- FAIL constantly ok. -/
def FailOracle.never : FailOracle := ⟨.ok, []⟩

end Sys2Proof
end

