-- ==== Sys2Proof/Machine/State.lean ====
section
/-! DEFINITION. The state of the block (10_state.md R13), its ports, the reasons a step can stop, and
the state after reset (R29). -/

namespace Sys2Proof.Machine

/-- Nothing in this hardware is a fault of the model: the spec's errors are results of commands, from
which the machine goes on (60_exceptions.md R194). So there is no constructor, and nobody raises one (log 13). -/
inductive Fault where
  deriving DecidableEq, Repr

/-- Why a request has no meaning. Every one is safe: no state changes and no response is defined. -/
inductive Refusal where
  /-- Raised by `exec` for an instruction the model gives no meaning yet; safe. -/
  | notModelled (mnemonic : String)
  /-- Raised by `step` for a word that matches no row (30_encoding.md R75); safe. -/
  | reservedWord
  /-- Raised by every command but SETVAL and SERBYTES, which the transmission itself issues, while a
  transmission runs (20_memory.md R52, 93_implementation_defined.md U5); safe. -/
  | busy
  /-- Raised by a D-format command in the wrong lifecycle state (43_lifecycle.md R151,
  93_implementation_defined.md U9); safe. -/
  | notAccepted
  /-- Raised by a P-format command while no pixel exists, since no Driver does (10_state.md R17, R20,
  93_implementation_defined.md U9); safe. -/
  | noPixel
  /-- Raised by a wire frame that is not what the running transmission sends next: only a transmission
  writes the lines (20_memory.md R42, R54; log 9); safe. -/
  | notInTransmission
  deriving DecidableEq, Repr

/-- The four byte registers of a PIXCELL (10_state.md R14). -/
structure Pixel where
  r : Byte
  g : Byte
  b : Byte
  brt : Byte
  deriving DecidableEq, Repr

/-- The lifecycle state of DRV (10_state.md R20). -/
inductive Life where
  | void
  | live
  | dead
  deriving DecidableEq, Repr

/-- A write event W(l, v, res): `ok` is false for a failed attempt (00_scope.md 5.5). -/
structure Event where
  line : Line
  value : Bit
  ok : Bool
  deriving DecidableEq, Repr

/-- The context of a transmission error (60_exceptions.md R183): `b` is 0 brightness, 1 blue, 2 green, 3 red. -/
inductive Stage where
  | sof
  | pixel (p : Fin 8) (b : Fin 4)
  | eof
  deriving DecidableEq, Repr

/-- What a response carries besides its word (30_encoding.md R72). -/
inductive Payload where
  | none
  | rgb (r g b : Byte)
  | rgbl (r g b : Byte) (level : Level)
  | bytes (b0 b1 b2 b3 : Byte)
  deriving DecidableEq, Repr

/-- The result of a command: Ok or one of the four errors (60_exceptions.md R180, R182). -/
inductive Response where
  | ok (payload : Payload)
  | acquireChipError
  | acquireLineError (which : Line)
  | transmitError (stage : Stage)
  | indexError (index : Nat)
  deriving DecidableEq, Repr

/-- The result of a call on the GPIO collaborator (44_gpio_sim.md R157 to R164). -/
inductive CallResult where
  | chipHandle
  | lineHandle (n : Nat)
  | ok
  | fail
  | released
  deriving DecidableEq, Repr

/-- What stands on the response port (30_encoding.md R72). -/
inductive Output where
  | nothing
  | response (r : Response)
  | call (c : CallResult)
  deriving DecidableEq, Repr

/-- One request of the host: a D-format word, the only format the host can issue, with the operand on LVL
beside it (30_encoding.md R67; log 7). `stepwise` asks for a TRANSMIT to be run write by write (log 11). -/
structure Request where
  word : BitVec 40
  lvl : LvlInput
  stepwise : Bool
  deriving DecidableEq, Repr

/-- A word DRV issues to a PIXCELL or to the collaborator, or the frame it is sending, with what travels
beside it: the level, the PIXCELL it goes to, the line number (30_encoding.md R67, R71; log 10). -/
structure UnitCommand where
  word : UnitWord
  lvl : LvlInput
  cell : Fin 8
  lineNumber : Nat
  deriving DecidableEq, Repr

/-- The state. INVENTORY.md lists every field with its rule. -/
structure State where
  /-- The OPEN parameters; no step writes them (10_state.md R27, log 3). -/
  cfg : Config
  /-- FAIL; no step writes it (44_gpio_sim.md R170, log 4). -/
  fail : FailOracle
  /-- PIX[0..7] (10_state.md R14). -/
  pix : Vector Pixel 8
  /-- COT (10_state.md R18). -/
  cot : Bit
  /-- HDATA: the line number the handle names, or not held (10_state.md R19). -/
  hdata : Option Nat
  /-- HCLK (10_state.md R19). -/
  hclk : Option Nat
  /-- LIFE (10_state.md R20). -/
  life : Life
  /-- SEQ, the index of the next line write (10_state.md R22). -/
  seq : Nat
  /-- TXBUSY (10_state.md R22). -/
  txBusy : Bool
  /-- CHIPOPEN (10_state.md R24). -/
  chipOpen : Bool
  /-- CLAIMED, strictly rising (10_state.md R24). -/
  claimed : List Nat
  /-- LINE[n], numbers strictly rising (10_state.md R24). -/
  line : List (Nat × Bit)
  /-- TRACE, oldest first (44_gpio_sim.md R165). -/
  trace : List Event
  /-- HIST, pairs (data, clock), oldest first (44_gpio_sim.md R165). -/
  hist : List (Bit × Bit)
  /-- CALLS (44_gpio_sim.md R156). -/
  calls : Nat
  /-- The model's own: how many NaN draws have been made (log 5). -/
  draws : Nat
  /-- The operand port LVL (30_encoding.md R67). -/
  lvl : Level
  /-- The PIXCELL the last P-format word was addressed to (20_memory.md R41). -/
  cell : Fin 8
  /-- The side operand line_number of REQLINE (30_encoding.md R71). -/
  lineNumber : Nat
  /-- The ports of the PIXCELLs and of the collaborator: the word DRV has put there (30_encoding.md R67,
  R71, R77). Only DRV does so, within a command, so no step leaves one there (log 10). -/
  unitPort : Option UnitCommand
  /-- The model's own: the requests the host has yet to issue (log 7). -/
  script : List Request
  /-- The response port (30_encoding.md R72). -/
  out : Output
  deriving DecidableEq, Repr

/-- A pixel's default state: black, default brightness (10_state.md R29). -/
def defaultPixel (cfg : Config) : Pixel := ⟨0, 0, 0, 0xE0 ||| cfg.defaultLevel5.zeroExtend 8⟩

/-- The state before any CONSTRUCT (10_state.md R29, middle column; 44_gpio_sim.md R156). Pixels and COT
do not exist then; DESIGN CHOICE for the values their fields hold (log 2). -/
def State.powerOn (cfg : Config) (fail : FailOracle) : State where
  cfg := cfg
  fail := fail
  pix := Vector.replicate 8 (defaultPixel cfg)
  cot := false
  hdata := none
  hclk := none
  life := .void
  seq := 0
  txBusy := false
  chipOpen := false
  claimed := []
  line := []
  trace := []
  hist := []
  calls := 0
  draws := 0
  lvl := .fin 0
  cell := 0
  lineNumber := 0
  unitPort := none
  script := []
  out := .nothing

/-- The state right after reset. "The block has one reset, and it is the operation CONSTRUCT"
(70_reset_and_hazards.md R205), so this is the state after a successful `CONSTRUCT 1` (10_state.md R29,
right column; 43_lifecycle.md R141's worked example), for the illustration values of the OPEN parameters
(DESIGN CHOICE, logs 1, 3 and 4). -/
def State.reset : State where
  cfg := Config.illustration
  fail := FailOracle.never
  pix := Vector.replicate 8 (defaultPixel Config.illustration)
  cot := true
  hdata := some 23
  hclk := some 24
  life := .live
  seq := 0
  txBusy := false
  chipOpen := true
  claimed := [23, 24]
  line := [(23, false), (24, false)]
  trace := []
  hist := [(false, false)]
  calls := 3
  draws := 0
  lvl := .fin 0
  cell := 0
  lineNumber := 0
  unitPort := none
  script := []
  out := .response (.ok .none)

end Sys2Proof.Machine
end

