-- ==== Sys2Proof/Machine/Operands.lean ====
section
/-! DEFINITION. Operands and results: the brightness conversions (40_pixel_ops.md R86, R87), the wire
bytes and frames (42_transmit.md R118 to R121), the stages and the response word (60_exceptions.md R182
to R184). -/

namespace Sys2Proof.Machine

/-! ## Brightness -/

/-- `clamp` on the rationals (40_pixel_ops.md R86). -/
def clampRat (q : Rat) : Rat := if q < 0 then 0 else if 1 < q then 1 else q

/-- `clamp` (40_pixel_ops.md R86); none is NaN. -/
def clamp : Level → Option Rat
  | .nan => none
  | .negInf => some 0
  | .posInf => some 1
  | .fin q => some (clampRat q)

/-- `floor(31 * q)` for a non-negative `q`: the exact product of numerator and 31, divided by the
denominator and rounded down (40_pixel_ops.md R86, decision D5). -/
def floor31 (q : Rat) : Nat := (31 * q.num / q.den).toNat

/-- `quant5`, where `draw` stands for the unconstrained level of a NaN operand (40_pixel_ops.md R86). -/
def quant5 (draw : Level5) (level : Level) : Level5 :=
  match clamp level with
  | none => draw
  | some q => BitVec.ofNat 5 (floor31 q)

/-- `unq(k) = k / 31` (40_pixel_ops.md R87). -/
def unq (k : Level5) : Level := .fin (mkRat k.toNat 31)

/-- `0xE0 | level5` (30_encoding.md R65). -/
def packBrt (k : Level5) : Byte := Config.marker ||| k.zeroExtend 8

/-- `BRT & 0x1F` (30_encoding.md R65). -/
def levelOfBrt (brt : Byte) : Level5 := (brt &&& 0x1F).truncate 5

/-- The level5 of the operand on LVL, at the k-th use within the operation (R86; each use of a NaN is a
draw of its own, 41_driver_ops.md R105). -/
def State.levelOperand (s : State) (k : Nat) : Level5 := quant5 (Config.nanLevel5 (s.draws + k)) s.lvl

/-- The draw counter after `n` uses of the operand on LVL (log 5). -/
def State.drawsAfter (s : State) (n : Nat) : Nat := if s.lvl = .nan then s.draws + n else s.draws

/-! ## The index -/

/-- The pixel an index names; none for an index of 8 or more (20_memory.md R46, R49). -/
def pixelIndex (index : Nat) : Option (Fin 8) := if h : index < 8 then some ⟨index, h⟩ else none

/-! ## Pixels -/

/-- The payload of GETPIX and GETRGBL (40_pixel_ops.md R89, 41_driver_ops.md R101). -/
def Pixel.decoded (p : Pixel) : Payload := .rgbl p.r p.g p.b (unq (levelOfBrt p.brt))

/-- The pixel with its colour overwritten (40_pixel_ops.md R90). -/
def Pixel.withRgb (p : Pixel) (r g b : Byte) : Pixel := { p with r := r, g := g, b := b }

/-- The pixel with its brightness byte overwritten (40_pixel_ops.md R91). -/
def Pixel.withLevel (p : Pixel) (k : Level5) : Pixel := { p with brt := packBrt k }

/-- A pixel of one state whatever it was (40_pixel_ops.md R93). -/
def Pixel.of (r g b : Byte) (k : Level5) : Pixel := ⟨r, g, b, packBrt k⟩

/-! ## The wire -/

/-- `wirebyte(p, b)`: the marker is forced on the brightness byte (42_transmit.md R118). -/
def wirebyte (pix : Vector Pixel 8) (p : Fin 8) (b : Fin 4) : Byte :=
  match b with
  | 0 => pix[p].brt ||| Config.marker
  | 1 => pix[p].b
  | 2 => pix[p].g
  | 3 => pix[p].r

/-- `bits8`: the bits of a byte, most significant first (42_transmit.md R119). -/
def bits8 (v : Byte) : List Bit :=
  [v.getLsbD 7, v.getLsbD 6, v.getLsbD 5, v.getLsbD 4, v.getLsbD 3, v.getLsbD 2, v.getLsbD 1, v.getLsbD 0]

/-- `frame(p)`: the 32 bits of pixel p in sending order (42_transmit.md R119). -/
def frame (pix : Vector Pixel 8) (p : Fin 8) : List Bit :=
  bits8 (wirebyte pix p 0) ++ bits8 (wirebyte pix p 1) ++ bits8 (wirebyte pix p 2) ++ bits8 (wirebyte pix p 3)

/-- The eight pixel numbers in chain order (20_memory.md R43). -/
def chain : List (Fin 8) := [0, 1, 2, 3, 4, 5, 6, 7]

/-- The four byte numbers of a frame in sending order (42_transmit.md R115). -/
def frameBytes : List (Fin 4) := [0, 1, 2, 3]

/-- `BITS`: the bit string of a complete transmission (42_transmit.md R120). -/
def bitString (pix : Vector Pixel 8) : List Bit :=
  List.replicate Config.sofPulses false ++ chain.flatMap (frame pix) ++ List.replicate Config.eofPulses false

/-- `ev(n)`: the line and value of write number n (42_transmit.md R121). -/
def ev (pix : Vector Pixel 8) (n : Nat) : Line × Bit :=
  if n = 0 then (.data, false)
  else if n ≤ 64 then (.clk, n % 2 == 1)
  else if n ≤ 832 then
    let m := n - 65
    let q := m / 3
    let t := m % 3
    if t = 0 then (.data, (wirebyte pix (Fin.ofNat 8 (q / 32)) (Fin.ofNat 4 (q % 32 / 8))).getLsbD (7 - q % 8))
    else if t = 1 then (.clk, true)
    else (.clk, false)
  else if n = 833 then (.data, false)
  else (.clk, (n - 834) % 2 == 0)

/-- `stage(n)`: the stage of write number n (60_exceptions.md R184). -/
def stage (n : Nat) : Stage :=
  if n ≤ 64 then .sof
  else if n ≤ 832 then .pixel (Fin.ofNat 8 ((n - 65) / 96)) (Fin.ofNat 4 ((n - 65) % 96 / 24))
  else .eof

/-! ## The response word -/

/-- The stage code `{kind, 0, p, b}` (60_exceptions.md R183). -/
def Stage.code : Stage → Byte
  | .sof => 0x00
  | .pixel p b => (0b01#2 : BitVec 2) ++ (0#1 : BitVec 1) ++ BitVec.ofNat 3 p.val ++ BitVec.ofNat 2 b.val
  | .eof => 0x80

/-- The status field (60_exceptions.md R182). -/
def Response.status : Response → BitVec 4
  | .ok _ => 0x0
  | .acquireChipError => 0x1
  | .acquireLineError _ => 0x2
  | .transmitError _ => 0x3
  | .indexError _ => 0x4

/-- The info field (60_exceptions.md R182). -/
def Response.info : Response → Byte
  | .ok _ => 0x00
  | .acquireChipError => 0x00
  | .acquireLineError .data => 0x00
  | .acquireLineError .clk => 0x01
  | .transmitError st => st.code
  | .indexError index => BitVec.ofNat 8 index

/-- The response word: status in 15:12, zero in 11:8, info in 7:0 (30_encoding.md R72). -/
def Response.word (r : Response) : BitVec 16 := r.status ++ (0#4 : BitVec 4) ++ r.info

/-- The level a response returns, as a bit pattern (93_implementation_defined.md U13). -/
def Response.levelBits (cfg : Config) : Response → Option Nat
  | .ok (.rgbl _ _ _ level) => some (cfg.bitsOfLevel level)
  | .ok .none => none
  | .ok (.rgb _ _ _) => none
  | .ok (.bytes _ _ _ _) => none
  | .acquireChipError => none
  | .acquireLineError _ => none
  | .transmitError _ => none
  | .indexError _ => none

end Sys2Proof.Machine
end

