-- ==== Sys2Proof/Machine/Flags.lean ====
section
/-! DEFINITION. The block has no condition flags; its one flag is COT (10_state.md R18). The nearest
thing to a mode is LIFE with TXBUSY (60_exceptions.md R195): here are the acceptance checks that every
instruction makes on them. -/

namespace Sys2Proof.Machine

/-- Does teardown clear and transmit? Read by TEARDOWN only (10_state.md R18). -/
def State.clearOnTeardown (s : State) : Bool := s.cot

/-- A second command is not taken while a transmission runs (20_memory.md R52, 42_transmit.md R124). -/
def State.whenIdle (s : State) (k : Host.Outcome State Fault Refusal) : Host.Outcome State Fault Refusal :=
  if s.txBusy then .refused .busy else k

/-- CONSTRUCT is accepted only in VOID (43_lifecycle.md R145, R151). -/
def State.whenVoid (s : State) (k : Host.Outcome State Fault Refusal) : Host.Outcome State Fault Refusal :=
  s.whenIdle (if s.life = .void then k else .refused .notAccepted)

/-- The other D-format commands are accepted only in LIVE (43_lifecycle.md R151). -/
def State.whenLive (s : State) (k : Host.Outcome State Fault Refusal) : Host.Outcome State Fault Refusal :=
  s.whenIdle (if s.life = .live then k else .refused .notAccepted)

/-- A P-format command needs its pixel, and pixels exist only in LIVE (10_state.md R17, R20). -/
def State.whenPixels (s : State) (k : Host.Outcome State Fault Refusal) : Host.Outcome State Fault Refusal :=
  s.whenIdle (if s.life = .live then k else .refused .noPixel)

/-- SERBYTES is issued by DRV "only as part of TRANSMIT" (40_pixel_ops.md R97), so a running transmission
does not keep it out. -/
def State.whenPixelsExist (s : State) (k : Host.Outcome State Fault Refusal) : Host.Outcome State Fault Refusal :=
  if s.life = .live then k else .refused .noPixel

end Sys2Proof.Machine
end

