-- ==== Sys2Proof/Machine/Ops.lean ====
section
/-! DEFINITION. The shared operations: responses and error entry (60_exceptions.md R192), GPIOSIM's line
store and its four primitives (44_gpio_sim.md R157 to R165), and pixel access (41_driver_ops.md R109). -/

namespace Sys2Proof.Machine

/-! ## Responses and errors -/

/-- The command ends with response `r` on the response port; no transmission runs (10_state.md R23). -/
def State.respond (s : State) (r : Response) : State := { s with seq := 0, txBusy := false, out := .response r }

/-- Ok with a payload (00_scope.md 5.4, `return v`). -/
def State.finishOk (s : State) (p : Payload) : State := s.respond (.ok p)

/-- ERROR ENTRY, the one shared operation: control returns to the host with the error response, no state
is saved, no mode changes, the state changes made before stay made (60_exceptions.md R192). -/
def State.raise (s : State) (e : Response) : State := s.respond e

/-- There is no return-from-error operation: after the response the block is ready for the next command,
so going on is the identity (60_exceptions.md R193). -/
def State.resume (s : State) : State := s

/-- A PIXCELL answers DRV, whether or not a transmission runs (40_pixel_ops.md R97). -/
def State.answer (s : State) (p : Payload) : State := { s with out := .response (.ok p) }

/-- A G-format call ends with its result (44_gpio_sim.md section 1). -/
def State.returnCall (s : State) (c : CallResult) : State := { s with out := .call c }

/-! ## The line store -/

/-- CLAIMED + {n}, kept strictly rising. -/
def insertClaim (n : Nat) : List Nat → List Nat
  | [] => [n]
  | m :: rest => if n < m then n :: m :: rest else if n = m then m :: rest else m :: insertClaim n rest

/-- CLAIMED − {n}. -/
def removeClaim (n : Nat) (claimed : List Nat) : List Nat := claimed.filter (· ≠ n)

/-- LINE[n], if the line has one. -/
def levelAt (n : Nat) : List (Nat × Bit) → Option Bit
  | [] => none
  | (m, v) :: rest => if n = m then some v else levelAt n rest

/-- LINE[n] <- v, kept strictly rising. -/
def setLevel (n : Nat) (v : Bit) : List (Nat × Bit) → List (Nat × Bit)
  | [] => [(n, v)]
  | (m, w) :: rest =>
    if n < m then (n, v) :: (m, w) :: rest
    else if n = m then (n, v) :: rest
    else (m, w) :: setLevel n v rest

/-- LINE[n] has no value any more (44_gpio_sim.md R164). -/
def removeLevel (n : Nat) (line : List (Nat × Bit)) : List (Nat × Bit) := line.filter (·.1 ≠ n)

/-- The canonical form of CLAIMED: strictly rising. -/
def claimedWf (claimed : List Nat) : Bool := decide (claimed.Pairwise (· < ·))

/-- The canonical form of LINE: line numbers strictly rising. -/
def LineStore.wf (line : List (Nat × Bit)) : Bool := claimedWf (line.map (·.1))

/-- LINE[n] for the recorder: an unheld line has any level (93_implementation_defined.md U6, log 6). -/
def State.levelOf (s : State) (n : Nat) : Bit := (levelAt n s.line).getD (Config.unheldLevel n s.calls)

/-- The pair (LINE[DATA], LINE[CLK]) that HIST records (44_gpio_sim.md R165). -/
def State.levels (s : State) : Bit × Bit := (s.levelOf s.cfg.dataLine, s.levelOf s.cfg.clkLine)

/-- Line n is held: claimed, with the level its request gave it (44_gpio_sim.md R158, R159; log 14). -/
def State.held (s : State) (n : Nat) : Bool := s.claimed.contains n && (levelAt n s.line).isSome

/-! ## The primitives -/

/-- OPEN (44_gpio_sim.md R157): the path is not interpreted. The Bool is `ok`. -/
def State.openChip (s : State) (_path : String) : State × Bool :=
  let s1 := { s with calls := s.calls + 1 }
  if s.fail.fails s.calls then (s1, false) else ({ s1 with chipOpen := true }, true)

/-- HIST[0] is written when the second of the two requests succeeds (44_gpio_sim.md R165, log 15). -/
def State.startHist (s : State) : State :=
  if s.hist = [] ∧ s.cfg.dataLine ≠ s.cfg.clkLine ∧ s.held s.cfg.dataLine ∧ s.held s.cfg.clkLine
  then { s with hist := [s.levels] } else s

/-- REQLINE (44_gpio_sim.md R158 to R160): the label is stored nowhere. -/
def State.requestLine (s : State) (n : Nat) (initial : Bit) (_label : String) : State × Bool :=
  let s1 := { s with calls := s.calls + 1 }
  if !s.chipOpen then (s1, false)
  else if s.cfg.numLines ≤ n then (s1, false)
  else if s.claimed.contains n then (s1, false)
  else if s.fail.fails s.calls then (s1, false)
  else ({ s1 with claimed := insertClaim n s.claimed, line := setLevel n initial s.line }.startHist, true)

/-- HIST grows by the pair after the event, once it has begun (44_gpio_sim.md R163, R165, log 15). -/
def State.recordLevels (s : State) : State :=
  { s with hist := if s.hist = [] then [] else s.hist ++ [s.levels] }

/-- SETVAL through the handle that names line `n`, DRV's line `l` (44_gpio_sim.md R161 to R163). -/
def State.setValue (s : State) (n : Nat) (l : Line) (v : Bit) : State × Bool :=
  let failed := s.fail.fails s.calls
  let level := if failed then Config.failedWriteLevel s.calls else v
  ({ s with
      calls := s.calls + 1
      line := setLevel n level s.line
      trace := s.trace ++ [Event.mk l v (!failed)] }.recordLevels,
    !failed)

/-- RELEASE (44_gpio_sim.md R164): it cannot fail and makes no numbered call. -/
def State.releaseLine (s : State) (n : Nat) : State :=
  { s with claimed := removeClaim n s.claimed, line := removeLevel n s.line }

/-! ## DRV's handles -/

/-- The number of DRV's line `l`: the one its handle names (10_state.md R19), and the configured one, which
is the same, where no handle is held. -/
def State.lineNo (s : State) : Line → Nat
  | .data => s.hdata.getD s.cfg.dataLine
  | .clk => s.hclk.getD s.cfg.clkLine

/-- `LineWrite(l, v)` (00_scope.md 5.4). -/
def State.lineWrite (s : State) (l : Line) (v : Bit) : State × Bool := s.setValue (s.lineNo l) l v

/-! ## Pixel access -/

/-- The pixel a P-format word is addressed to (20_memory.md R41). -/
def State.thisPixel (s : State) : Pixel := s.pix[s.cell]

/-- Write that pixel; no other is touched (40_pixel_ops.md R85). -/
def State.setThisPixel (s : State) (p : Pixel) : State := { s with pix := s.pix.set s.cell p }

/-- Write PIX[i] (41_driver_ops.md R103). -/
def State.setPixel (s : State) (i : Fin 8) (p : Pixel) : State := { s with pix := s.pix.set i p }

/-- Write PIX[i] for every i in 0..7 (41_driver_ops.md R105). -/
def State.setPixels (s : State) (f : Fin 8 → Pixel) : State := { s with pix := Vector.ofFn f }

/-- The operand on LVL has been used `n` times (log 5). -/
def State.useLevel (s : State) (n : Nat) : State := { s with draws := s.drawsAfter n }

/-- All pixels black at CLEAR_LEVEL (41_driver_ops.md R107). -/
def State.clearAll (s : State) : State :=
  s.setPixels fun _ => Pixel.of 0 0 0 (quant5 0 Config.clearLevel)

/-- All pixels in the default state (43_lifecycle.md R141). -/
def State.initPixels (s : State) : State := s.setPixels fun _ => defaultPixel s.cfg

end Sys2Proof.Machine
end

