-- ==== Sys2Proof/Machine/Driver.lean ====
section
/-! DEFINITION. The four driver operations on pixel state (41_driver_ops.md). None performs a line write (R100). -/

namespace Sys2Proof.Machine

/-- GETPIX: the pixel decoded, or IndexError for an index of 8 or more (R101, R102). -/
def execGetpix (index : Nat) (s : State) : Host.Outcome State Fault Refusal :=
  s.whenLive <|
    match pixelIndex index with
    | some i => .next (s.finishOk s.pix[i].decoded)
    | none => .next (s.raise (.indexError index))

/-- SETPIX: the four bytes of PIX[index], or silently nothing; in that case LVL is not used (R103, R104). -/
def execSetpix (index : Nat) (r g b : Byte) (s : State) : Host.Outcome State Fault Refusal :=
  s.whenLive <|
    match pixelIndex index with
    | some i => .next (((s.setPixel i (.of r g b (s.levelOperand 0))).useLevel 1).finishOk .none)
    | none => .next (s.finishOk .none)

/-- SETALL: the same state to all eight pixels; for a NaN level each pixel's level5 is its own draw (R105). -/
def execSetall (r g b : Byte) (s : State) : Host.Outcome State Fault Refusal :=
  s.whenLive
    (.next (((s.setPixels fun i => .of r g b (s.levelOperand i.val)).useLevel Config.numPixels).finishOk .none))

/-- CLRALL: all pixels black at level 6, "without transmitting" (R107). -/
def execClrall (s : State) : Host.Outcome State Fault Refusal :=
  s.whenLive (.next (s.clearAll.finishOk .none))

end Sys2Proof.Machine
end

