-- ==== Sys2Proof/Machine/Gpio.lean ====
section
/-! DEFINITION. The four G-format calls on GPIOSIM (44_gpio_sim.md). `sel` names DATA_LINE or CLK_LINE
(30_encoding.md R71). The rules are total: no call is refused for its handle (log 12). -/

namespace Sys2Proof.Machine

/-- OPEN (R157). -/
def execOpenchip (s : State) : Host.Outcome State Fault Refusal :=
  s.whenIdle <|
    let o := s.openChip s.cfg.chipPath
    .next (o.1.returnCall (if o.2 then .chipHandle else .fail))

/-- REQLINE of the line number on the side operand port (R158 to R160). The line the side operand names
is requested; `sel` says for which of DRV's two handles, and the result goes back to the caller. -/
def execReqline (_sel : Line) (val : Bit) (s : State) : Host.Outcome State Fault Refusal :=
  s.whenIdle <|
    let q := s.requestLine s.lineNumber val s.cfg.label
    .next (q.1.returnCall (if q.2 then .lineHandle s.lineNumber else .fail))

/-- SETVAL through the handle on DATA_LINE or CLK_LINE (R161 to R163). A running transmission does not
keep it out: its writes are SETVALs (R155). -/
def execSetval (sel : Line) (val : Bit) (s : State) : Host.Outcome State Fault Refusal :=
  let w := s.setValue (s.cfg.lineNo sel) sel val
  .next (w.1.returnCall (if w.2 then .ok else .fail))

/-- RELEASE of the handle on DATA_LINE or CLK_LINE (R164): `CLAIMED <- CLAIMED - {n}`. -/
def execRelease (sel : Line) (s : State) : Host.Outcome State Fault Refusal :=
  s.whenIdle (.next ((s.releaseLine (s.cfg.lineNo sel)).returnCall .released))

end Sys2Proof.Machine
end

