-- ==== Sys2Proof/Machine/Transmit.lean ====
section
/-! DEFINITION. TRANSMIT with its sequencer (42_transmit.md R115, R121 to R127), and the three wire
frames, the parts of a transmission (30_encoding.md R60 to R64). -/

namespace Sys2Proof.Machine

/-! ## The sequencer -/

/-- Accepting TRANSMIT: TXBUSY <- 1, SEQ <- 0, no write (42_transmit.md R124). The response port holds
nothing until the transmission ends. -/
def State.txAccept (s : State) : State := { s with seq := 0, txBusy := true, out := .nothing }

/-- One step of the sequencer: one line write, ev(SEQ). On ok SEQ advances and 906 ends the transmission
with Ok; on fail it ends with TransmitError(stage(SEQ)) (42_transmit.md R124). -/
def State.txStep (s : State) : State :=
  let w := s.lineWrite (ev s.pix s.seq).1 (ev s.pix s.seq).2
  if w.2 then
    if s.seq + 1 = Config.numWrites then w.1.finishOk .none else { w.1 with seq := s.seq + 1 }
  else w.1.raise (.transmitError (stage s.seq))

/-- At most `k` steps of the sequencer, until the transmission ends. -/
def State.txRun : Nat → State → State
  | 0, s => s
  | k + 1, s => if s.txBusy then txRun k s.txStep else s

/-- A whole transmission as one big step (42_transmit.md R123). -/
def State.transmit (s : State) : State := s.txAccept.txRun Config.numWrites

/-- TRANSMIT (42_transmit.md R115, R116, R123). -/
def execTransmit (s : State) : Host.Outcome State Fault Refusal :=
  s.whenLive (.next s.transmit)

/-- TRANSMIT of a request that asks for single steps: only the acceptance (42_transmit.md R124, log 11). -/
def acceptTransmit (s : State) : Host.Outcome State Fault Refusal :=
  s.whenLive (.next s.txAccept)

/-- A step while TXBUSY = 1: one write; no command is taken (42_transmit.md R124). -/
def stepTransmission (s : State) : Host.Outcome State Fault Refusal :=
  .next s.txStep

/-! ## The protocol sequence as lists of writes (42_transmit.md R115) -/

/-- One `write(l, v, stage)` of R115's pseudocode. -/
structure Write where
  stage : Stage
  line : Line
  value : Bit
  deriving DecidableEq, Repr

/-- `pulse(stage)` (42_transmit.md R117). -/
def pulseWrites (st : Stage) : List Write := [⟨st, .clk, true⟩, ⟨st, .clk, false⟩]

/-- One payload bit: the data line, then a pulse (30_encoding.md R64). -/
def bitWrites (st : Stage) (v : Bit) : List Write := ⟨st, .data, v⟩ :: pulseWrites st

/-- A zero frame of `n` bits: the data line low once, then `n` pulses (30_encoding.md R64). -/
def zeroFrameWrites (st : Stage) (n : Nat) : List Write :=
  ⟨st, .data, false⟩ :: (List.replicate n (pulseWrites st)).flatten

/-- The start-of-frame (30_encoding.md R61). -/
def sofWrites : List Write := zeroFrameWrites .sof Config.sofPulses

/-- The end-of-frame (30_encoding.md R63). -/
def eofWrites : List Write := zeroFrameWrites .eof Config.eofPulses

/-- One byte of pixel `p`'s frame, most significant bit first (42_transmit.md R115). -/
def byteWrites (p : Fin 8) (b : Fin 4) (v : Byte) : List Write := (bits8 v).flatMap (bitWrites (.pixel p b))

/-- The bytes of an LED frame word in sending order: marker and level5, blue, green, red (30_encoding.md R62). -/
def ledWrites (p : Fin 8) (level5 : Level5) (blue green red : Byte) : List Write :=
  byteWrites p 0 (packBrt level5) ++ byteWrites p 1 blue ++ byteWrites p 2 green ++ byteWrites p 3 red

/-- Pixel `p`'s part of a transmission (42_transmit.md R115). -/
def pixelWrites (pix : Vector Pixel 8) (p : Fin 8) : List Write :=
  frameBytes.flatMap fun b => byteWrites p b (wirebyte pix p b)

/-- The whole of R115's pseudocode. -/
def protocolWrites (pix : Vector Pixel 8) : List Write :=
  sofWrites ++ chain.flatMap (pixelWrites pix) ++ eofWrites

/-- Perform writes in order up to the first failure, whose stage is answered (42_transmit.md R126). -/
def State.runWrites : List Write → State → State × Option Stage
  | [], s => (s, none)
  | w :: rest, s =>
    let r := s.lineWrite w.line w.value
    if r.2 then runWrites rest r.1 else (r.1, some w.stage)

/-- The response to performed writes: Ok, or the error that names the stage (60_exceptions.md R186). -/
def State.endWrites (r : State × Option Stage) : State :=
  match r.2 with
  | none => r.1.finishOk .none
  | some st => r.1.raise (.transmitError st)

/-! ## The wire frames, each the part of a running transmission that SEQ has come to (log 9) -/

/-- The next `n` writes of the transmission, if it has come to a frame that `due` says is the one asked for
(30_encoding.md R60; 20_memory.md R42, R54). -/
def State.sendFrame (n : Nat) (due : Bool) (s : State) : Host.Outcome State Fault Refusal :=
  if s.txBusy && due then .next (s.txRun n) else .refused .notInTransmission

/-- SEQ stands at the frame of pixel `p`, and its bits are those of the frame asked for (30_encoding.md R62,
42_transmit.md R121). -/
def State.frameDue (s : State) (level5 : Level5) (blue green red : Byte) (p : Fin 8) : Bool :=
  s.seq == 65 + 96 * p.val && wirebyte s.pix p 0 == packBrt level5 && wirebyte s.pix p 1 == blue
    && wirebyte s.pix p 2 == green && wirebyte s.pix p 3 == red

/-- SOF: the 32 zero bits that begin a transmission, 65 writes (30_encoding.md R61, R64). -/
def execSof (s : State) : Host.Outcome State Fault Refusal := s.sendFrame 65 (s.seq == 0)

/-- LEDFRAME: the 32 bits of the pixel whose turn it is, 96 writes (30_encoding.md R62, R64). -/
def execLedframe (level5 : Level5) (blue green red : Byte) (s : State) : Host.Outcome State Fault Refusal :=
  s.sendFrame 96 (chain.any (s.frameDue level5 blue green red))

/-- EOF: the 36 zero bits that end a transmission, 73 writes (30_encoding.md R63, R64). -/
def execEof (s : State) : Host.Outcome State Fault Refusal := s.sendFrame 73 (s.seq == 833)

end Sys2Proof.Machine
end

