-- ==== Sys2Proof/Machine/Lifecycle.lean ====
section
/-! DEFINITION. Construction and teardown (43_lifecycle.md). -/

namespace Sys2Proof.Machine

/-- A failed construction: no Driver, no handle, the error as response (43_lifecycle.md R143). -/
def State.failConstruct (s : State) (e : Response) : State := { s with hdata := none, hclk := none }.raise e

/-- The last part of CONSTRUCT, both lines held (43_lifecycle.md R141). -/
def State.becomeLive (cot : Bit) (s : State) : State :=
  { s.initPixels with
    cot := cot
    hdata := some s.cfg.dataLine
    hclk := some s.cfg.clkLine
    life := .live }.finishOk .none

/-- CONSTRUCT: open the chip, request the data line, request the clock line; the first failure is the
error, and a data line already claimed is released again (43_lifecycle.md R141 to R143). -/
def execConstruct (cot : Bit) (s : State) : Host.Outcome State Fault Refusal :=
  s.whenVoid <|
    let opened := s.openChip s.cfg.chipPath
    if !opened.2 then .next (opened.1.failConstruct .acquireChipError)
    else
      let data := opened.1.requestLine s.cfg.dataLine Config.initData s.cfg.label
      if !data.2 then .next (data.1.failConstruct (.acquireLineError .data))
      else
        let clk := data.1.requestLine s.cfg.clkLine Config.initClk s.cfg.label
        if !clk.2 then .next ((clk.1.releaseLine s.cfg.dataLine).failConstruct (.acquireLineError .clk))
        else .next (clk.1.becomeLive cot)

/-- The best-effort blanking of TEARDOWN: CLRALL and a transmission whose result is discarded
(43_lifecycle.md R146 to R148). -/
def State.blank (s : State) : State := s.clearAll.transmit

/-- Both lines are released and the Driver is gone; the response is always Ok (43_lifecycle.md R146). -/
def State.becomeDead (s : State) : State :=
  { (s.releaseLine (s.lineNo .data)).releaseLine (s.lineNo .clk) with hdata := none, hclk := none, life := .dead }.finishOk .none

/-- TEARDOWN (43_lifecycle.md R146). -/
def execTeardown (s : State) : Host.Outcome State Fault Refusal :=
  s.whenLive (.next (if s.clearOnTeardown then s.blank else s).becomeDead)

/-- A new Driver on the GPIOSIM that an old one left: VOID, nothing carried over but GPIOSIM
(43_lifecycle.md R152; log 16). It is the outside world's doing, not a command. -/
def State.newDriver (s : State) : State :=
  { State.powerOn s.cfg s.fail with
    chipOpen := s.chipOpen
    claimed := s.claimed
    line := s.line
    trace := s.trace
    hist := s.hist
    calls := s.calls
    draws := s.draws
    lvl := s.lvl
    cell := s.cell
    lineNumber := s.lineNumber
    script := s.script }

end Sys2Proof.Machine
end

