-- ==== Sys2Proof/Machine/Pixel.lean ====
section
/-! DEFINITION. The seven P-format operations on the addressed PIXCELL (40_pixel_ops.md). None can fail,
none writes a flag or a line, none touches another pixel (R85). -/

namespace Sys2Proof.Machine

/-- GETRGB: `return (P.R, P.G, P.B)` (R88). -/
def execGetrgb (s : State) : Host.Outcome State Fault Refusal :=
  s.whenPixels (.next (s.finishOk (.rgb s.thisPixel.r s.thisPixel.g s.thisPixel.b)))

/-- GETRGBL: `return (P.R, P.G, P.B, unq(P.BRT & 0x1F))` (R89). -/
def execGetrgbl (s : State) : Host.Outcome State Fault Refusal :=
  s.whenPixels (.next (s.finishOk s.thisPixel.decoded))

/-- SETRGB: the colour is overwritten, BRT unchanged (R90). -/
def execSetrgb (r g b : Byte) (s : State) : Host.Outcome State Fault Refusal :=
  s.whenPixels (.next ((s.setThisPixel (s.thisPixel.withRgb r g b)).finishOk .none))

/-- SETBRT: `P.BRT <- 0xE0 | quant5(level)` (R91). -/
def execSetbrt (s : State) : Host.Outcome State Fault Refusal :=
  s.whenPixels
    (.next (((s.setThisPixel (s.thisPixel.withLevel (s.levelOperand 0))).useLevel 1).finishOk .none))

/-- SETRGBL: SETRGB and SETBRT composed (R93). -/
def execSetrgbl (r g b : Byte) (s : State) : Host.Outcome State Fault Refusal :=
  s.whenPixels (.next (((s.setThisPixel (.of r g b (s.levelOperand 0))).useLevel 1).finishOk .none))

/-- CLR: "sets color to (0,0,0), brightness unchanged" (R95). -/
def execClr (s : State) : Host.Outcome State Fault Refusal :=
  s.whenPixels (.next ((s.setThisPixel (s.thisPixel.withRgb 0 0 0)).finishOk .none))

/-- SERBYTES: `return (P.BRT, P.B, P.G, P.R)`, the stored bytes in wire order (R97). -/
def execSerbytes (s : State) : Host.Outcome State Fault Refusal :=
  s.whenPixelsExist
    (.next (s.answer (.bytes s.thisPixel.brt s.thisPixel.b s.thisPixel.g s.thisPixel.r)))

end Sys2Proof.Machine
end

