-- ==== Sys2Proof/Machine/Dispatch.lean ====
section
/-! DEFINITION. One arm per constructor of `Instr`. -/

namespace Sys2Proof.Machine

def exec (i : Instr) (s : State) : Host.Outcome State Fault Refusal :=
  match i with
  -- D-format
  | .construct cot => Sys2Proof.Machine.execConstruct cot s
  | .transmit => Sys2Proof.Machine.execTransmit s
  | .getpix index => Sys2Proof.Machine.execGetpix index s
  | .setpix index r g b => Sys2Proof.Machine.execSetpix index r g b s
  | .setall r g b => Sys2Proof.Machine.execSetall r g b s
  | .clrall => Sys2Proof.Machine.execClrall s
  | .teardown => Sys2Proof.Machine.execTeardown s
  -- P-format
  | .getrgb => Sys2Proof.Machine.execGetrgb s
  | .getrgbl => Sys2Proof.Machine.execGetrgbl s
  | .setrgb r g b => Sys2Proof.Machine.execSetrgb r g b s
  | .setbrt => Sys2Proof.Machine.execSetbrt s
  | .setrgbl r g b => Sys2Proof.Machine.execSetrgbl r g b s
  | .clr => Sys2Proof.Machine.execClr s
  | .serbytes => Sys2Proof.Machine.execSerbytes s
  -- G-format
  | .openchip => Sys2Proof.Machine.execOpenchip s
  | .reqline sel val => Sys2Proof.Machine.execReqline sel val s
  | .setval sel val => Sys2Proof.Machine.execSetval sel val s
  | .release sel => Sys2Proof.Machine.execRelease sel s
  -- wire frames
  | .sof => Sys2Proof.Machine.execSof s
  | .ledframe level5 blue green red => Sys2Proof.Machine.execLedframe level5 blue green red s
  | .eof => Sys2Proof.Machine.execEof s

end Sys2Proof.Machine
end

