-- ==== Sys2Proof/Machine/Port.lean ====
section
/-! DEFINITION. The command ports: how a request of the host reaches DRV, and how a word of DRV's reaches a
PIXCELL or the collaborator (30_encoding.md R67, R71, R77; logs 7, 10 and 11). -/

namespace Sys2Proof.Machine

/-- The host issues request `q`, with its operand on LVL; `rest` is what it will issue later. -/
def State.present (s : State) (q : Request) (rest : List Request) : State :=
  { s with script := rest, lvl := s.cfg.levelOf q.lvl }

/-- DRV's word `u` is taken off its port, with its side operands on theirs. -/
def State.presentUnit (s : State) (u : UnitCommand) : State :=
  { s with unitPort := none, lvl := s.cfg.levelOf u.lvl, cell := u.cell, lineNumber := u.lineNumber }

/-- A command is executed to completion (00_scope.md R7), or, for a TRANSMIT the host asked to see in
single steps, accepted (42_transmit.md R124). -/
def runRequest (q : Request) (i : Instr) (s : State) : Host.Outcome State Fault Refusal :=
  if q.stepwise = true ∧ i = .transmit then acceptTransmit s else exec i s

/-- DRV takes the host's request `q`; a reserved word is refused (30_encoding.md R75). -/
def takeRequest (s : State) (q : Request) (rest : List Request) : Host.Outcome State Fault Refusal :=
  match decodeD q.word with
  | .error _ => .refused .reservedWord
  | .ok i => runRequest q i (s.present q rest)

/-- A PIXCELL or the collaborator takes DRV's word `u`; a reserved word is refused (30_encoding.md R75). -/
def takeUnitCommand (s : State) (u : UnitCommand) : Host.Outcome State Fault Refusal :=
  match decode u.word.toWord with
  | .error _ => .refused .reservedWord
  | .ok i => exec i (s.presentUnit u)

/-- A step: a word that stands on a port of DRV's own is taken; else one write while a transmission runs
(42_transmit.md R124); else the host's next command; with no command the block waits
(70_reset_and_hazards.md R207). -/
def stepBody (s : State) : Host.Outcome State Fault Refusal :=
  match s.unitPort with
  | some u => takeUnitCommand s u
  | none =>
    if s.txBusy then stepTransmission s
    else
      match s.script with
      | [] => .next s
      | q :: rest => takeRequest s q rest

/-! ## Placing a word where the next step takes it (log 10) -/

/-- The block idle, with the host's next request a D-format word. -/
def State.withRequest (s : State) (w : BitVec 40) : State :=
  { s with seq := 0, txBusy := false, unitPort := none, script := ⟨w, .level s.lvl, false⟩ :: s.script }

/-- The block idle, with a word of DRV's own on its port and `n` as the line number beside it. -/
def State.withUnitWord (s : State) (w : UnitWord) (n : Nat) : State :=
  { s with seq := 0, txBusy := false, unitPort := some ⟨w, .level s.lvl, s.cell, n⟩ }

/-- A transmission that has come to write number `seq`, about to send the frame `w`. -/
def State.withFrame (s : State) (w : UnitWord) (seq : Nat) : State :=
  { s with seq := seq, txBusy := true, unitPort := some ⟨w, .level s.lvl, s.cell, s.lineNumber⟩ }

/-- The addressed pixel as an LED frame has it (30_encoding.md R62), so that the frame is this pixel's. -/
def State.withFramePixel (s : State) (w : BitVec 32) : State :=
  s.setThisPixel (.of (w.extractLsb' 0 8) (w.extractLsb' 8 8) (w.extractLsb' 16 8) (w.extractLsb' 24 5))

/-- A word on its port. DRV passes the number of the line that the `sel` bit of a G-format word names
(30_encoding.md R71). A frame stands where the transmission comes to it: the start-of-frame at write 0,
the frame of the addressed pixel at its first write, the end-of-frame at write 833. -/
def State.withWord (s : State) : Word → State
  | .d w => s.withRequest w
  | .p w => s.withUnitWord (.p w) s.lineNumber
  | .g w => s.withUnitWord (.g w) (s.cfg.lineNo (lineOfSel (w.getLsbD 1)))
  | .w32 w =>
    if rowLedframe.selects w then (s.withFramePixel w).withFrame (.w32 w) (65 + 96 * s.cell.val)
    else s.withFrame (.w32 w) 0
  | .w36 w => s.withFrame (.w36 w) 833

end Sys2Proof.Machine
end

