-- ==== Sys2Proof/Machine/Step.lean ====
section
/-! DEFINITION. One step of the block, and the placing of a word where the next step takes it. -/

namespace Sys2Proof.Machine

/-- One step (`stepBody`). -/
def step (s : State) : Host.Outcome State Fault Refusal := stepBody s

/-- The table's word where the next step takes it (log 10); a word no port takes stands as a reserved
D-format word. -/
def State.withFetchWord (s : State) (nbits w : Nat) : State :=
  match tableWord nbits w with
  | some word => s.withWord word
  | none => s.withRequest 0

end Sys2Proof.Machine
end

