-- ==== Sys2Proof/Machine/Observe.lean ====
section
/-! DEFINITION. What is read off the recorder: edges, pulses, the sampled bit stream, and reading a
stream back (44_gpio_sim.md R166 to R169). -/

namespace Sys2Proof.Machine

/-- `f` of each pair of neighbours HIST[t], HIST[t+1], in order. -/
def overEdges {α : Type} (f : Bit × Bit → Bit × Bit → List α) : List (Bit × Bit) → List α
  | [] => []
  | a :: rest =>
    match rest with
    | [] => []
    | b :: _ => f a b ++ overEdges f rest

/-- A rising clock edge (R166). -/
def rises (a b : Bit × Bit) : Bool := !a.2 && b.2

/-- A falling clock edge (R166). -/
def falls (a b : Bit × Bit) : Bool := a.2 && !b.2

/-- `samples(HIST)`: the data level at each rising clock edge (R168). -/
def samples (hist : List (Bit × Bit)) : List Bit := overEdges (fun a b => if rises a b then [b.1] else []) hist

/-- The clock edges in order: `true` a rising, `false` a falling one (R166). -/
def clockEdges (hist : List (Bit × Bit)) : List Bool :=
  overEdges (fun a b => if rises a b then [true] else if falls a b then [false] else []) hist

/-- `pulses(HIST)`: the number of falling edges that have a rising edge before them (R167). -/
def pulses (hist : List (Bit × Bit)) : Nat := ((clockEdges hist).dropWhile (!·)).count false

/-- The indices t of the data changes (R166), as one unit each. -/
def dataChanges (hist : List (Bit × Bit)) : Nat := (overEdges (fun a b => if a.1 != b.1 then [()] else []) hist).length

/-- A bit list, first-sent bit most significant, as a number. -/
def bitsToNat (bits : List Bit) : Nat := bits.foldl (fun n b => 2 * n + b.toNat) 0

/-- The 32 bits of group `p` of a stream (R169). -/
def streamGroup (bits : List Bit) (p : Fin 8) : List Bit := (bits.drop (32 + 32 * p.val)).take 32

/-- A well-formed transmission of this block (R169). -/
def streamWellFormed (bits : List Bit) : Bool :=
  bits.length == 324 && bits.take 32 == List.replicate 32 false && bits.drop 288 == List.replicate 36 false
    && chain.all fun p => (streamGroup bits p).take 3 == [true, true, true]

/-- The pixel a 32-bit group was made from (R169). -/
def readGroup (g : List Bit) : Pixel where
  r := BitVec.ofNat 8 (bitsToNat ((g.drop 24).take 8))
  g := BitVec.ofNat 8 (bitsToNat ((g.drop 16).take 8))
  b := BitVec.ofNat 8 (bitsToNat ((g.drop 8).take 8))
  brt := packBrt (BitVec.ofNat 5 (bitsToNat ((g.drop 3).take 5)))

/-- The pixel state a stream was made from (R169). -/
def readStream (bits : List Bit) : Vector Pixel 8 := Vector.ofFn fun p => readGroup (streamGroup bits p)

/-- The part of HIST that a later state adds, with the pair it starts from. -/
def histSince (s t : State) : List (Bit × Bit) := t.hist.drop (s.hist.length - 1)

/-- The part of TRACE that a later state adds. -/
def traceSince (s t : State) : List Event := t.trace.drop s.trace.length

end Sys2Proof.Machine
end

