-- ==== Sys2Proof/Safety.lean ====
section
/-! DEFINITION. The terms claims use: when a command may run, which collaborator calls fail, what an
operation leaves unchanged, and the invariants every step keeps. -/

namespace Sys2Proof.Machine

/-! ## Premises on the state -/

/-- A Driver exists and no transmission runs: the block takes D-format commands (43_lifecycle.md R151). -/
structure State.Usable (s : State) : Prop where
  idle : s.txBusy = false
  live : s.life = .live

/-- None of the next `n` collaborator calls fails by the oracle (44_gpio_sim.md R170). -/
def State.NoFail (s : State) (n : Nat) : Prop := ∀ k, k < n → s.fail.fails (s.calls + k) = false

/-- Of the coming calls, number `f` (from 0) is the first that fails by the oracle. -/
def State.FirstFail (s : State) (f : Nat) : Prop := s.NoFail f ∧ s.fail.fails (s.calls + f) = true

/-- DRV holds handles on the two configured lines, which are different and have a level (10_state.md R19,
44_gpio_sim.md R158, R159). -/
structure State.Wired (s : State) : Prop where
  hdata : s.hdata = some s.cfg.dataLine
  hclk : s.hclk = some s.cfg.clkLine
  distinct : s.cfg.dataLine ≠ s.cfg.clkLine
  dataLevel : (levelAt s.cfg.dataLine s.line).isSome = true
  clkLevel : (levelAt s.cfg.clkLine s.line).isSome = true

/-- HIST is being recorded and its last pair is the present levels. -/
def State.HistCurrent (s : State) : Prop := s.hist.getLast? = some s.levels

/-- A level value that `quant5` may give, said by the spec's formula `floor(31 × clamp(level))`; any
value for NaN (40_pixel_ops.md R86). -/
def IsQuant (level : Level) (k : Level5) : Prop :=
  match level with
  | .nan => True
  | .negInf => k = 0
  | .posInf => k = 31
  | .fin q => (k.toNat : ℤ) = ⌊31 * max 0 (min 1 q)⌋

/-- The request line is free and valid for a REQLINE (44_gpio_sim.md R160). -/
structure State.Requestable (s : State) (n : Nat) : Prop where
  chip : s.chipOpen = true
  valid : n < s.cfg.numLines
  free : n ∉ s.claimed

/-! ## Events of a transmission -/

/-- The first `n` events of a transmission of `pix`, all ok (42_transmit.md R121). -/
def okEvents (pix : Vector Pixel 8) (n : Nat) : List Event :=
  (List.range n).map fun k => ⟨(ev pix k).1, (ev pix k).2, true⟩

/-- The `k` events of a transmission of `pix` from write number `n` on, all ok. -/
def okEventsFrom (pix : Vector Pixel 8) (n k : Nat) : List Event :=
  (List.range k).map fun j => ⟨(ev pix (n + j)).1, (ev pix (n + j)).2, true⟩

/-- The failed attempt of write number `n` (42_transmit.md R123). -/
def failEvent (pix : Vector Pixel 8) (n : Nat) : Event := ⟨(ev pix n).1, (ev pix n).2, false⟩

/-- The value of the last of writes 0 to `n - 1` that goes to line `l`, if there is one. -/
def lastWrite (pix : Vector Pixel 8) (l : Line) : Nat → Option Bit
  | 0 => none
  | n + 1 => if (ev pix n).1 = l then some (ev pix n).2 else lastWrite pix l n

/-- The level that writes 0 to `n - 1`, all ok, leave on line `l`: that of the last of them to this line, and
the one it had where there is none (10_state.md R25). -/
def levelAfter (s : State) (l : Line) (n : Nat) : Option Bit :=
  match lastWrite s.pix l n with
  | some v => some v
  | none => levelAt (s.lineNo l) s.line

/-- The frames of a transmission, as instructions in their order (30_encoding.md R60). -/
def frameInstrs (pix : Vector Pixel 8) : List Instr :=
  .sof :: (chain.map fun p => .ledframe (levelOfBrt pix[p].brt) pix[p].b pix[p].g pix[p].r) ++ [.eof]

/-- Instructions executed one after another, up to the first that gives no next state. -/
def execAll : List Instr → State → Host.Outcome State Fault Refusal
  | [], s => .next s
  | i :: rest, s =>
    match exec i s with
    | .next t => execAll rest t
    | .fault f => .fault f
    | .refused r => .refused r

/-! ## Frames: what an operation leaves unchanged -/

/-- The parameters, the ports and the host's script (10_state.md R27). -/
structure SameEnv (s t : State) : Prop where
  cfg : t.cfg = s.cfg
  fail : t.fail = s.fail
  lvl : t.lvl = s.lvl
  cell : t.cell = s.cell
  lineNumber : t.lineNumber = s.lineNumber
  script : t.script = s.script
  unitPort : t.unitPort = s.unitPort

/-- COT, the handles and LIFE (10_state.md R18 to R20). -/
structure SameDriver (s t : State) : Prop where
  cot : t.cot = s.cot
  hdata : t.hdata = s.hdata
  hclk : t.hclk = s.hclk
  life : t.life = s.life

/-- All of GPIOSIM (10_state.md R24). -/
structure SameSim (s t : State) : Prop where
  chipOpen : t.chipOpen = s.chipOpen
  claimed : t.claimed = s.claimed
  line : t.line = s.line
  trace : t.trace = s.trace
  hist : t.hist = s.hist
  calls : t.calls = s.calls

/-- What line writes leave unchanged: all but the two lines' levels, TRACE, HIST, CALLS, the sequencer and
the response (42_transmit.md R115, R131). -/
structure WriteFrame (s t : State) : Prop where
  env : SameEnv s t
  driver : SameDriver s t
  pix : t.pix = s.pix
  draws : t.draws = s.draws
  chipOpen : t.chipOpen = s.chipOpen
  claimed : t.claimed = s.claimed
  lines : ∀ n, n ≠ s.lineNo .data → n ≠ s.lineNo .clk → levelAt n t.line = levelAt n s.line

/-- The same of a transmission that has ended: the sequencer rests (10_state.md R23). -/
structure TransmitFrame (s t : State) : Prop extends WriteFrame s t where
  seq : t.seq = 0
  idle : t.txBusy = false

/-! ## The invariant -/

/-- What every step keeps. -/
structure Inv (s : State) : Prop where
  /-- The marker bits are 111 (10_state.md R16). -/
  marker : ∀ i : Fin 8, s.pix[i].brt &&& 0xE0 = 0xE0
  /-- SEQ is 0 whenever no transmission runs (10_state.md R23). -/
  seqIdle : s.txBusy = false → s.seq = 0
  /-- While one runs, SEQ names its next write and the Driver is LIVE (R20, R22, R23). -/
  seqBusy : s.txBusy = true → s.seq < 906 ∧ s.life = .live
  /-- CLAIMED is in its canonical form. -/
  claimedRising : claimedWf s.claimed = true
  /-- LINE is in its canonical form. -/
  lineRising : LineStore.wf s.line = true
  /-- In LIVE the handles name the configured lines (R19). -/
  handlesLive : s.life = .live → s.hdata = some s.cfg.dataLine ∧ s.hclk = some s.cfg.clkLine
  /-- Out of LIVE no handle is held (R29, R30). -/
  handlesNot : s.life ≠ .live → s.hdata = none ∧ s.hclk = none
  /-- Every event is a call, and HIST has at most one pair more than TRACE has events (44_gpio_sim.md R165). -/
  counts : s.trace.length ≤ s.calls ∧ s.hist.length ≤ s.trace.length + 1

/-- What every step keeps besides where no word comes to a PIXCELL or to the collaborator from outside a
command, as the rules have it: "Only DRV calls the primitives" (44_gpio_sim.md R155, 10_state.md R17). -/
structure Owned (s : State) : Prop where
  /-- No word stands on the units' ports between two steps. -/
  unitPort : s.unitPort = none
  /-- A level stands only for a claimed line with a valid number (R24, 44_gpio_sim.md R160). -/
  levelClaimed : ∀ n, (levelAt n s.line).isSome = true → n ∈ s.claimed ∧ n < s.cfg.numLines
  /-- In LIVE the two lines are different, and DRV holds both (10_state.md R19, 44_gpio_sim.md R159). -/
  linesHeld : s.life = .live → s.cfg.dataLine ≠ s.cfg.clkLine ∧
    s.held s.cfg.dataLine = true ∧ s.held s.cfg.clkLine = true

end Sys2Proof.Machine
end

