-- ==== Sys2Proof/Certificates/Slice0/Obligations.lean ====
section
/-! DEFINITION. The statements for the provers. Each docstring says which rule of spec/ it formalises. -/

open Sys2Proof
open Sys2Proof.Machine

/-! ## Encodings -/

/-- Decode and encode agree: every well-formed instruction is read back from its word (R61 to R63, R68 to R71). -/
def Obligations.DecodeEncodeRoundTrip : Prop :=
  ∀ i : Instr, i.wellFormed = true → decode (encode i) = .ok i

/-- Each word has one meaning: what decodes is well-formed and its word is the word read (R69 to R71). -/
def Obligations.DecodedWordsReencode : Prop :=
  ∀ (w : Word) (i : Instr), decode w = .ok i → i.wellFormed = true ∧ encode i = w

/-- A word is reserved exactly when no row of its format selects it, and a reserved word is refused, on the
host's port and on DRV's own (R75, the spec's decision D22). R75 says so of the D-, P- and G-format; that a
wire frame is a word of the opcode table, and so can be a reserved one, is the model's choice (logs 9 and 10). -/
def Obligations.ReservedWordsAreRefused : Prop :=
  (∀ w : Word, w.matchesRow = false ↔ ∃ e, decode w = .error e) ∧
  (∀ (s : State) (q : Request) (rest : List Request),
    s.unitPort = none → s.txBusy = false → s.script = q :: rest → (Word.d q.word).matchesRow = false →
    step s = .refused .reservedWord) ∧
  ∀ (s : State) (u : UnitCommand),
    s.unitPort = some u → u.word.toWord.matchesRow = false → step s = .refused .reservedWord

/-- "so the rows are disjoint" (R69): at most one row of a format selects a word. -/
def Obligations.OpcodeRowsAreDisjoint : Prop :=
  (∀ w : BitVec 40, dRows.Pairwise fun a b => ¬ (a.selects w = true ∧ b.selects w = true)) ∧
  (∀ w : BitVec 28, pRows.Pairwise fun a b => ¬ (a.selects w = true ∧ b.selects w = true)) ∧
  (∀ w : BitVec 4, gRows.Pairwise fun a b => ¬ (a.selects w = true ∧ b.selects w = true))

/-- Words the spec writes out decode to the instructions it gives them (95_test_vectors.md V3, V4, V11). -/
def Obligations.SpecWordsDecode : Prop :=
  decode (.d 0x1000000001) = .ok (.construct true) ∧
  decode (.d 0x4003123456) = .ok (.setpix 3 0x12 0x34 0x56) ∧
  decode (.d 0x50000A141E) = .ok (.setall 10 20 30) ∧
  decode (.d 0x30FF000000) = .ok (.getpix 255) ∧
  decode (.p 0x3FF0080) = .ok (.setrgb 0xFF 0x00 0x80) ∧
  decode (.g 0b1011) = .ok (.setval .clk true) ∧
  decode (.g 0b1110) = .ok (.release .clk) ∧
  decode (.w32 0xE6563412) = .ok (.ledframe 6 0x56 0x34 0x12) ∧
  decode (.d 0x2000000001) = .error .reservedD ∧
  decode (.p 0x4000001) = .error .reservedP ∧
  decode (.g 0b1101) = .error .reservedG

/-! ## The step -/

/-- A step runs the decoded instruction: the host's D-format word with the operand on LVL (R67), or the word
DRV has put on a port of its own, with its side operands on theirs (R67, R71, R77). A bit pattern on LVL
stands for the level that LEVEL_REPR gives it (R5). The script and the unit port are the model's (logs 7, 10). -/
def Obligations.StepRunsTheDecodedInstruction : Prop :=
  (∀ (s : State) (q : Request) (rest : List Request) (i : Instr),
    s.unitPort = none → s.txBusy = false → s.script = q :: rest → decode (.d q.word) = .ok i →
    q.stepwise = false → step s = exec i { s with script := rest, lvl := s.cfg.levelOf q.lvl }) ∧
  ∀ (s : State) (u : UnitCommand) (i : Instr), s.unitPort = some u → decode u.word.toWord = .ok i →
    step s = exec i { s with
      unitPort := none, lvl := s.cfg.levelOf u.lvl, cell := u.cell, lineNumber := u.lineNumber }

/-- With no command the block waits: "The first thing the block does after reset is wait for a command" (R207, R190). -/
def Obligations.StepWaitsWithoutCommand : Prop :=
  ∀ s : State, s.unitPort = none → s.txBusy = false → s.script = [] → step s = .next s

/-- A word placed by `withFetchWord` is the instruction the very next step runs: a D-, P- or G-format word in
the idle block, a wire frame in a transmission that has come to it, where it goes on (log 10). -/
def Obligations.FetchedWordRunsNext : Prop :=
  ∀ (s : State) (nbits w : Nat) (i : Instr), decodeTableWord nbits w = some i →
    ∃ word, tableWord nbits w = some word ∧ decode word = .ok i ∧
      (i.format = .d ∨ i.format = .p → step (s.withFetchWord nbits w) =
        exec i { s with seq := 0, txBusy := false, unitPort := none }) ∧
      (∀ gw, word = .g gw → step (s.withFetchWord nbits w) =
        exec i { s with
          seq := 0, txBusy := false, unitPort := none, lineNumber := s.cfg.lineNo (lineOfSel (gw.getLsbD 1)) }) ∧
      (i = .sof → step (s.withFetchWord nbits w) =
        exec i { s with seq := 0, txBusy := true, unitPort := none }) ∧
      (∀ v b g r, i = .ledframe v b g r → step (s.withFetchWord nbits w) =
        exec i { s with
          pix := s.pix.set s.cell ⟨r, g, b, 0xE0 ||| BitVec.ofNat 8 v.toNat⟩
          seq := 65 + 96 * s.cell.val, txBusy := true, unitPort := none }) ∧
      (i = .eof → step (s.withFetchWord nbits w) =
        exec i { s with seq := 833, txBusy := true, unitPort := none }) ∧
      (i.format = .w → ∃ t, step (s.withFetchWord nbits w) = .next t)

/-- While a transmission runs the host's next command is not taken, and a command is refused (R52, R124, the
spec's decision D24). R52 and D24 speak of a second command; that the words of DRV's own, P- and G-format, are
refused likewise, and that the transmission's own operations are not, SETVAL (R155), SERBYTES (R97) and the
frames (R60), is the model's deduction (log 10), and that a frame is an instruction its choice (log 9). -/
def Obligations.BusyTakesNoCommand : Prop :=
  (∀ (i : Instr) (s : State), s.txBusy = true → i.format ≠ .w → i ≠ .serbytes → (∀ l v, i ≠ .setval l v) →
    exec i s = .refused .busy) ∧
  ∀ s : State, s.unitPort = none → s.txBusy = true → ∃ t, step s = .next t ∧ t.script = s.script

/-- Acceptance by lifecycle state (R151, the spec's decision D18): in VOID only CONSTRUCT, in LIVE every
D-format operation but CONSTRUCT, in DEAD nothing. Of DRV's own words a P-format word is refused in an idle
block exactly when no pixel exists (R17, R20), a call on the collaborator never (R157 to R164), and a wire frame
exactly when it is not what the running transmission sends next (R42, R54, R60; log 9). R161 and R164 ask for a
valid line handle; that SETVAL and RELEASE are not refused for a line nobody holds is the model's deduction
(log 12, unsafe there). -/
def Obligations.LifecycleDecidesAcceptance : Prop :=
  (∀ (i : Instr) (s : State), i.format = .d → s.txBusy = false →
    (s.life = .void → (exec i s = .refused .notAccepted ↔ ¬ ∃ cot, i = .construct cot)) ∧
    (s.life = .live → (exec i s = .refused .notAccepted ↔ ∃ cot, i = .construct cot)) ∧
    (s.life = .dead → exec i s = .refused .notAccepted)) ∧
  (∀ (i : Instr) (s : State), i.format = .p → s.txBusy = false →
    (exec i s = .refused .noPixel ↔ s.life ≠ .live)) ∧
  (∀ (i : Instr) (s : State), i.format = .g → s.txBusy = false → ∃ t, exec i s = .next t) ∧
  ∀ (i : Instr) (s : State), i.format = .w →
    (exec i s = .refused .notInTransmission ↔ ¬ (s.txBusy = true ∧
      (i = .sof ∧ s.seq = 0 ∨ i = .eof ∧ s.seq = 833 ∨ ∃ p : Fin 8, s.seq = 65 + 96 * p.val ∧
        i = .ledframe (levelOfBrt s.pix[p].brt) s.pix[p].b s.pix[p].g s.pix[p].r)))

/-! ## The brightness quantiser -/

/-- The consequences R86 lists: `quant5` is k exactly on [k/31, (k+1)/31), is 31 exactly from 1 up and 0
exactly below 1/31, is monotone, undoes `unq`, and gives 6 for 0.2; for NaN it is the free value. The exact
product is the spec's decision D5, the free value D6, the consequences the spec's own derivations. -/
def Obligations.QuantiserLaws : Prop :=
  (∀ (d : Level5) (q : Rat) (k : Nat), k ≤ 30 →
    ((quant5 d (.fin q)).toNat = k ↔ (k : Rat) / 31 ≤ clampRat q ∧ clampRat q < ((k : Rat) + 1) / 31)) ∧
  (∀ (d : Level5) (q : Rat), quant5 d (.fin q) = 31 ↔ 1 ≤ q) ∧
  (∀ (d : Level5) (q : Rat), quant5 d (.fin q) = 0 ↔ q < 1 / 31) ∧
  (∀ (d e : Level5) (p q : Rat), p ≤ q → (quant5 d (.fin p)).toNat ≤ (quant5 e (.fin q)).toNat) ∧
  (∀ d : Level5, quant5 d .negInf = 0 ∧ quant5 d .posInf = 31) ∧
  (∀ d k : Level5, unq k = .fin ((k.toNat : Rat) / 31) ∧ quant5 d (unq k) = k) ∧
  (∀ d : Level5, quant5 d .nan = d ∧ quant5 d Config.clearLevel = 6)

/-! ## Pixel-cell operations -/

/-- GETRGB (R88): the stored colour, no side effect. -/
def Obligations.GetrgbReturnsStoredColour : Prop :=
  ∀ s : State, s.Usable →
    exec .getrgb s = .next { s with
      seq := 0, txBusy := false
      out := .response (.ok (.rgb s.pix[s.cell].r s.pix[s.cell].g s.pix[s.cell].b)) }

/-- GETRGBL (R89): the colour and the low five bits of BRT divided by 31, no side effect. -/
def Obligations.GetrgblDecodesBrightness : Prop :=
  ∀ s : State, s.Usable →
    exec .getrgbl s = .next { s with
      seq := 0, txBusy := false
      out := .response (.ok (.rgbl s.pix[s.cell].r s.pix[s.cell].g s.pix[s.cell].b
        (.fin (((s.pix[s.cell].brt &&& 0x1F).toNat : Rat) / 31)))) }

/-- SETRGB (R90): the colour overwritten, BRT and every other pixel unchanged. -/
def Obligations.SetrgbOverwritesColour : Prop :=
  ∀ (r g b : Byte) (s : State), s.Usable →
    exec (.setrgb r g b) s = .next { s with
      pix := s.pix.set s.cell ⟨r, g, b, s.pix[s.cell].brt⟩
      seq := 0, txBusy := false, out := .response (.ok .none) }

/-- SETBRT (R91): BRT becomes 0xE0 OR floor(31 × clamp(level)); for NaN any level (a free value, the spec's
decision D6). That the counter `draws` advances for NaN, so that each draw is a new one, is the model's (log 5). -/
def Obligations.SetbrtStoresClampedFloor : Prop :=
  ∀ s : State, s.Usable → ∃ k : Level5, IsQuant s.lvl k ∧
    exec .setbrt s = .next { s with
      pix := s.pix.set s.cell
        ⟨s.pix[s.cell].r, s.pix[s.cell].g, s.pix[s.cell].b, 0xE0 ||| BitVec.ofNat 8 k.toNat⟩
      draws := if s.lvl = .nan then s.draws + 1 else s.draws
      seq := 0, txBusy := false, out := .response (.ok .none) }

/-- SETRGBL (R93): all four bytes of the pixel overwritten; for NaN any level (the spec's decision D6),
and the model's counter `draws` advances (log 5). -/
def Obligations.SetrgblOverwritesPixel : Prop :=
  ∀ (r g b : Byte) (s : State), s.Usable → ∃ k : Level5, IsQuant s.lvl k ∧
    exec (.setrgbl r g b) s = .next { s with
      pix := s.pix.set s.cell ⟨r, g, b, 0xE0 ||| BitVec.ofNat 8 k.toNat⟩
      draws := if s.lvl = .nan then s.draws + 1 else s.draws
      seq := 0, txBusy := false, out := .response (.ok .none) }

/-- SETRGBL is SETRGB then SETBRT, and the order makes no difference (R79, R93, R94). -/
def Obligations.SetrgblComposesSetrgbAndSetbrt : Prop :=
  ∀ (r g b : Byte) (s : State), s.Usable →
    (∃ t, exec (.setrgb r g b) s = .next t ∧ exec .setbrt t = exec (.setrgbl r g b) s) ∧
    (∃ t, exec .setbrt s = .next t ∧ exec (.setrgb r g b) t = exec (.setrgbl r g b) s)

/-- CLR (R95): the colour becomes black, BRT keeps marker and level. -/
def Obligations.ClrKeepsBrightness : Prop :=
  ∀ s : State, s.Usable →
    exec .clr s = .next { s with
      pix := s.pix.set s.cell ⟨0, 0, 0, s.pix[s.cell].brt⟩
      seq := 0, txBusy := false, out := .response (.ok .none) }

/-- SERBYTES (R97): the four stored bytes, BRT first, then blue, green, red, and nothing else changes. R97 has DRV
issue it only as part of TRANSMIT; that it is executed while a transmission runs, and as a word placed from
outside in an idle block too, is the model's deduction (log 10). -/
def Obligations.SerbytesInWireOrder : Prop :=
  ∀ s : State, s.life = .live →
    exec .serbytes s = .next { s with
      out := .response (.ok (.bytes s.pix[s.cell].brt s.pix[s.cell].b s.pix[s.cell].g s.pix[s.cell].r)) }

/-- The testable properties of SETBRT (R92): (a) levels outside [0, 1] read back as 0 and 1; (b) levels
in [0, 1] read back as floor(31 × level) / 31; (c) the marker is 111 after every SETBRT; (d) storing the
brightness read back leaves BRT unchanged. -/
def Obligations.SetbrtReadBackLaws : Prop :=
  ∀ (s : State) (level : Level), s.Usable → ∃ t u r g b back,
    exec .setbrt { s with lvl := level } = .next t ∧
    exec .getrgbl t = .next u ∧ u.out = .response (.ok (.rgbl r g b back)) ∧
    (∀ q : Rat, level = .fin q → q < 0 → back = .fin 0 ∧ t.pix[s.cell].brt = 0xE0) ∧
    (∀ q : Rat, level = .fin q → 1 < q → back = .fin 1 ∧ t.pix[s.cell].brt = 0xFF) ∧
    (level = .negInf → back = .fin 0 ∧ t.pix[s.cell].brt = 0xE0) ∧
    (level = .posInf → back = .fin 1 ∧ t.pix[s.cell].brt = 0xFF) ∧
    (∀ q : Rat, level = .fin q → 0 ≤ q → q ≤ 1 → back = .fin ((⌊31 * q⌋ : Rat) / 31)) ∧
    t.pix[s.cell].brt &&& 0xE0 = 0xE0 ∧
    ∃ v, exec .setbrt { u with lvl := back } = .next v ∧ v.pix = t.pix

/-- What all seven pixel operations have in common (R85): none fails, none writes a flag or a line, and
none reads or writes any pixel other than the addressed one. -/
def Obligations.PixelOperationsReachOnePixel : Prop :=
  ∀ (i : Instr) (s : State), i.format = .p → s.Usable → ∃ t p,
    exec i s = .next t ∧ t.out = .response (.ok p) ∧ t.txBusy = false ∧
    SameEnv s t ∧ SameDriver s t ∧ SameSim s t ∧
    (∀ j : Fin 8, j ≠ s.cell → t.pix[j] = s.pix[j]) ∧
    ∀ v : Vector Pixel 8, v[s.cell] = s.pix[s.cell] →
      exec i { s with pix := v } = .next { t with pix := v.set s.cell t.pix[s.cell] }

/-! ## Driver operations on pixel state -/

/-- GETPIX (R101, R102): the decoded pixel for an index below 8, IndexError carrying the index from 8 up;
no state changes. -/
def Obligations.GetpixReturnsPixelOrIndexError : Prop :=
  ∀ (index : Nat) (s : State), s.Usable →
    (∀ h : index < 8, exec (.getpix index) s = .next { s with
      seq := 0, txBusy := false
      out := .response (.ok (.rgbl s.pix[index].r s.pix[index].g s.pix[index].b
        (.fin (((s.pix[index].brt &&& 0x1F).toNat : Rat) / 31)))) }) ∧
    (8 ≤ index → exec (.getpix index) s = .next { s with
      seq := 0, txBusy := false, out := .response (.indexError index) })

/-- SETPIX (R103, R104): the four bytes of PIX[index] for an index below 8; from 8 up the response is Ok
and nothing changes, and no draw is made. For NaN below 8 any level is stored (the spec's decision D6), and the
model's counter `draws` advances (log 5). -/
def Obligations.SetpixStoresOrIgnores : Prop :=
  ∀ (index : Nat) (r g b : Byte) (s : State), s.Usable →
    (∀ h : index < 8, ∃ k : Level5, IsQuant s.lvl k ∧
      exec (.setpix index r g b) s = .next { s with
        pix := s.pix.set index ⟨r, g, b, 0xE0 ||| BitVec.ofNat 8 k.toNat⟩
        draws := if s.lvl = .nan then s.draws + 1 else s.draws
        seq := 0, txBusy := false, out := .response (.ok .none) }) ∧
    (8 ≤ index → exec (.setpix index r g b) s = .next { s with
      seq := 0, txBusy := false, out := .response (.ok .none) })

/-- SETALL (R105): the same state to all eight pixels; for NaN each pixel's level is a draw of its
own (the spec's decision D6), and the model's counter `draws` advances by eight (log 5). -/
def Obligations.SetallStoresEveryPixel : Prop :=
  ∀ (r g b : Byte) (s : State), s.Usable → ∃ ks : Fin 8 → Level5, (∀ i, IsQuant s.lvl (ks i)) ∧
    exec (.setall r g b) s = .next { s with
      pix := Vector.ofFn fun i => ⟨r, g, b, 0xE0 ||| BitVec.ofNat 8 (ks i).toNat⟩
      draws := if s.lvl = .nan then s.draws + 8 else s.draws
      seq := 0, txBusy := false, out := .response (.ok .none) }

/-- After SETALL with a non-NaN level every GETPIX returns the same tuple, and the eight frames of a
following transmission are identical (R106). -/
def Obligations.SetallMakesPixelsAlike : Prop :=
  ∀ (r g b : Byte) (s : State), s.Usable → s.lvl ≠ .nan → ∃ t k,
    exec (.setall r g b) s = .next t ∧ IsQuant s.lvl k ∧
    (∀ i, i < 8 → ∃ u, exec (.getpix i) t = .next u ∧ u.out = .response (.ok (.rgbl r g b (unq k)))) ∧
    ∀ p : Fin 8, frame t.pix p = frame t.pix 0

/-- CLRALL (R107): every pixel becomes (0, 0, 0, 0xE6), without transmitting. -/
def Obligations.ClrallBlackAtLevelSix : Prop :=
  ∀ s : State, s.Usable →
    exec .clrall s = .next { s with
      pix := Vector.replicate 8 ⟨0, 0, 0, 0xE6⟩
      seq := 0, txBusy := false, out := .response (.ok .none) }

/-- "The only operations that perform line writes are TRANSMIT and TEARDOWN with COT = 1" (R54): a step that
changes TRACE is one of a running transmission, or one that takes such a command; a step that changes a
line's level is one of these or takes a CONSTRUCT or a TEARDOWN (R42); and a step that changes a pixel takes a
driver operation that writes pixels (R17). The units' ports are empty, as every step leaves them (log 10). -/
def Obligations.OnlyTransmitAndTeardownWriteLines : Prop :=
  (∀ (i : Instr) (s t : State), i.format = .d → exec i s = .next t → t.trace ≠ s.trace →
    i = .transmit ∨ i = .teardown ∧ s.cot = true) ∧
  ∀ s t : State, s.unitPort = none → step s = .next t →
    (t.trace ≠ s.trace → s.txBusy = true ∨ ∃ q rest, s.script = q :: rest ∧
      (decode (.d q.word) = .ok .transmit ∨ decode (.d q.word) = .ok .teardown ∧ s.cot = true)) ∧
    (∀ n, levelAt n t.line ≠ levelAt n s.line → s.txBusy = true ∨ ∃ q rest, s.script = q :: rest ∧
      (decode (.d q.word) = .ok .transmit ∨ decode (.d q.word) = .ok .teardown ∨
        ∃ cot, decode (.d q.word) = .ok (.construct cot))) ∧
    (t.pix ≠ s.pix → s.txBusy = false ∧ ∃ q rest i, s.script = q :: rest ∧ decode (.d q.word) = .ok i ∧
      (i = .clrall ∨ i = .teardown ∨ (∃ cot, i = .construct cot) ∨ (∃ r g b, i = .setall r g b) ∨
        ∃ index r g b, i = .setpix index r g b))

/-! ## TRANSMIT -/

/-- The big-step meaning of a transmission (R123, the spec's own inference) with what it leaves unchanged (R131): if no write
fails, all 906 events and Ok, and both lines low; if write f is the first to fail, the events before it, the failed
attempt, nothing after it, and TransmitError(stage(f)), the line of the failed write at some level and the
other at the value of the last successful write to it (R25). A begun HIST ends in the present levels (R163). -/
def Obligations.TransmitBigStep : Prop :=
  ∀ s : State, s.Usable →
    (s.NoFail 906 → ∃ t, exec .transmit s = .next t ∧
      t.trace = s.trace ++ okEvents s.pix 906 ∧ t.calls = s.calls + 906 ∧
      t.out = .response (.ok .none) ∧ TransmitFrame s t ∧ (s.hist ≠ [] → t.HistCurrent) ∧
      (s.lineNo .data ≠ s.lineNo .clk →
        levelAt (s.lineNo .data) t.line = some false ∧ levelAt (s.lineNo .clk) t.line = some false)) ∧
    (∀ f, f < 906 → s.FirstFail f → ∃ t, exec .transmit s = .next t ∧
      t.trace = s.trace ++ okEvents s.pix f ++ [failEvent s.pix f] ∧ t.calls = s.calls + f + 1 ∧
      t.out = .response (.transmitError (stage f)) ∧ TransmitFrame s t ∧ (s.hist ≠ [] → t.HistCurrent) ∧
      (∃ v, levelAt (s.lineNo (ev s.pix f).1) t.line = some v) ∧
      (s.lineNo .data ≠ s.lineNo .clk → ∀ l, l ≠ (ev s.pix f).1 →
        levelAt (s.lineNo l) t.line = levelAfter s l f))

/-- A complete transmission started with the clock low (R128): 324 pulses, the sampled stream is BITS,
and both lines end low. -/
def Obligations.TransmitSampledStreamIsBits : Prop :=
  ∀ s : State, s.Usable → s.Wired → s.HistCurrent → s.levels.2 = false → s.NoFail 906 →
    ∃ t, exec .transmit s = .next t ∧
      samples (histSince s t) = bitString s.pix ∧ pulses (histSince s t) = 324 ∧
      (bitString s.pix).length = 324 ∧ (bitString s.pix).take 32 = List.replicate 32 false ∧
      (bitString s.pix).drop 288 = List.replicate 36 false ∧
      levelAt s.cfg.dataLine t.line = some false ∧ levelAt s.cfg.clkLine t.line = some false

/-- A transmission started with the clock high (R135): the same 906 events, but 323 pulses, and the
sampled stream lacks its first bit. -/
def Obligations.TransmitClockHighLosesOnePulse : Prop :=
  ∀ s : State, s.Usable → s.Wired → s.HistCurrent → s.levels.2 = true → s.NoFail 906 →
    ∃ t, exec .transmit s = .next t ∧ t.trace = s.trace ++ okEvents s.pix 906 ∧
      samples (histSince s t) = (bitString s.pix).tail ∧ pulses (histSince s t) = 323

/-- R115's pseudocode unrolled is R121's numbered list, the spec's own inference: 906 writes, of which 258 on the data line and 648
on the clock line, write n being ev(n) of stage(n); and performing them up to the first failure is what TRANSMIT does. -/
def Obligations.ProtocolIsTheNumberedList : Prop :=
  (∀ pix : Vector Pixel 8,
    (protocolWrites pix).length = 906 ∧
    (protocolWrites pix).countP (·.line = .data) = 258 ∧ (protocolWrites pix).countP (·.line = .clk) = 648 ∧
    ∀ n, n < 906 → (protocolWrites pix)[n]? = some ⟨stage n, (ev pix n).1, (ev pix n).2⟩) ∧
  ∀ s : State, s.Usable →
    exec .transmit s = .next (State.endWrites (s.runWrites (protocolWrites s.pix)))

/-- Frame packing (R119, R62): the frame as a number with the first-sent bit most significant, and as
the LED frame's word. -/
def Obligations.FramePacksMarkerLevelBlueGreenRed : Prop :=
  ∀ (pix : Vector Pixel 8) (p : Fin 8),
    (frame pix p).length = 32 ∧
    bitsToNat (frame pix p) =
      0xE0000000 + (pix[p].brt &&& 0x1F).toNat * 2 ^ 24 + pix[p].b.toNat * 2 ^ 16
        + pix[p].g.toNat * 2 ^ 8 + pix[p].r.toNat ∧
    bitsToNat (frame pix p) = (ledFrameWord (levelOfBrt pix[p].brt) pix[p].b pix[p].g pix[p].r).toNat

/-- The data line is not written during a pulse, and a payload bit's data write comes right before its
rising write (R129, the spec's own inference). -/
def Obligations.DataIsStableDuringPulses : Prop :=
  ∀ (pix : Vector Pixel 8) (n : Nat), n < 906 →
    (ev pix n = (.clk, true) → n + 1 < 906 ∧ ev pix (n + 1) = (.clk, false)) ∧
    (∀ v, ev pix n = (.data, v) → n + 1 < 906 ∧ ev pix (n + 1) = (.clk, true))

/-- The stage of every write number (R184, R132; the spec's decision D17): 65 writes of SOF, 24 of each byte of each pixel, 73 of EOF. -/
def Obligations.StageOfEveryWrite : Prop :=
  ∀ n, n < 906 →
    (stage n = .sof ↔ n ≤ 64) ∧
    (∀ (p : Fin 8) (b : Fin 4), stage n = .pixel p b ↔
      65 + 96 * p.val + 24 * b.val ≤ n ∧ n ≤ 88 + 96 * p.val + 24 * b.val) ∧
    (stage n = .eof ↔ 833 ≤ n)

/-- The response words (R182, R183): status, zero, info, with the stage codes (the spec's decision D16). -/
def Obligations.ResponseWordsCarryStatusAndInfo : Prop :=
  (∀ p, (Response.ok p).word = 0x0000) ∧
  Response.acquireChipError.word = 0x1000 ∧
  (Response.acquireLineError .data).word = 0x2000 ∧ (Response.acquireLineError .clk).word = 0x2001 ∧
  (Response.transmitError .sof).word = 0x3000 ∧ (Response.transmitError .eof).word = 0x3080 ∧
  (∀ (p : Fin 8) (b : Fin 4),
    (Response.transmitError (.pixel p b)).word = 0x3040 ||| BitVec.ofNat 16 (4 * p.val + b.val)) ∧
  (∀ index, index < 256 → (Response.indexError index).word.toNat = 0x4000 + index)

/-- One step of the sequencer (R124): while TXBUSY = 1 a step attempts exactly one write, ev(SEQ); on ok the
line holds its value, else some level (R162, R163), no other line changes, and a begun HIST gains the pair of
levels; on ok SEQ advances, and at 906 the response is Ok and the sequencer rests; on fail the response is
TransmitError(stage(SEQ)) and it rests; no command is taken and nothing else changes. -/
def Obligations.SequencerStepWritesOnce : Prop :=
  ∀ s : State, s.unitPort = none → s.txBusy = true → ∃ t v,
    step s = .next t ∧ WriteFrame s t ∧ t.calls = s.calls + 1 ∧
    t.trace = s.trace ++ [⟨(ev s.pix s.seq).1, (ev s.pix s.seq).2, !s.fail.fails s.calls⟩] ∧
    levelAt (s.lineNo (ev s.pix s.seq).1) t.line = some v ∧
    (s.fail.fails s.calls = false → v = (ev s.pix s.seq).2) ∧
    (∀ n, n ≠ s.lineNo (ev s.pix s.seq).1 → levelAt n t.line = levelAt n s.line) ∧
    t.hist = (if s.hist = [] then [] else s.hist ++ [t.levels]) ∧
    (s.fail.fails s.calls = false → s.seq + 1 ≠ 906 →
      t.seq = s.seq + 1 ∧ t.txBusy = true ∧ t.out = s.out) ∧
    (s.fail.fails s.calls = false → s.seq + 1 = 906 →
      t.seq = 0 ∧ t.txBusy = false ∧ t.out = .response (.ok .none)) ∧
    (s.fail.fails s.calls = true →
      t.seq = 0 ∧ t.txBusy = false ∧ t.out = .response (.transmitError (stage s.seq)))

/-- Small steps and big step agree (R124, the spec's decision D19; the request flag is the model's, log 11): accepting a TRANSMIT stepwise and stepping until it rests
gives what the big step gives, whether or not a write fails. -/
def Obligations.StepwiseTransmitEqualsBigStep : Prop :=
  ∀ (s : State) (q : Request), s.Usable → s.unitPort = none →
    s.script = [q] → q.stepwise = true → decode (.d q.word) = .ok .transmit →
    step s = .next { s with
      script := [], lvl := s.cfg.levelOf q.lvl, seq := 0, txBusy := true, out := .nothing } ∧
    Host.Core.run Sys2Proof.core 907 s = exec .transmit { s with script := [], lvl := s.cfg.levelOf q.lvl }

/-- The operation is "stateless between invocations" (R130): two transmissions of equal pixel states, neither
failing, append identical lists of 906 events, whatever stands between them. -/
def Obligations.TransmitIsStatelessBetweenCalls : Prop :=
  ∀ s u : State, s.Usable → u.Usable → s.pix = u.pix → s.NoFail 906 → u.NoFail 906 → ∃ t v,
    exec .transmit s = .next t ∧ exec .transmit u = .next v ∧
    traceSince s t = traceSince u v ∧ (traceSince s t).length = 906

/-- Reading a sampled stream back (R169, the spec's own inference): BITS is well-formed and gives back the
pixel state it was made from, for pixels whose marker is 111, and every well-formed stream is the BITS of the
pixels read from it. -/
def Obligations.SampledStreamReadsBack : Prop :=
  (∀ pix : Vector Pixel 8, streamWellFormed (bitString pix) = true ∧
    ((∀ p : Fin 8, pix[p].brt &&& 0xE0 = 0xE0) → readStream (bitString pix) = pix)) ∧
  ∀ bits : List Bit, streamWellFormed bits = true → bitString (readStream bits) = bits

/-! ## The wire frames -/

/-- The wire frames put their bits on the lines (R61 to R64), each where a running transmission has come to it:
the zero frames write the data line once and pulse 32 (36) times; an LED frame writes data, clock high,
clock low for each of its 32 bits, most significant first. Afterwards the transmission stands at its next
frame, or has ended. That a frame is an instruction of its own is the model's choice (log 9). -/
def Obligations.WireFramesWriteTheirBits : Prop :=
  ∀ s : State, s.txBusy = true →
    (s.seq = 0 → s.NoFail 65 → ∃ t, exec .sof s = .next t ∧ WriteFrame s t ∧
      t.seq = 65 ∧ t.txBusy = true ∧ t.out = s.out ∧ t.calls = s.calls + 65 ∧
      t.trace = s.trace ++ ⟨.data, false, true⟩ ::
        (List.replicate 32 [Event.mk .clk true true, Event.mk .clk false true]).flatten) ∧
    (∀ (p : Fin 8) (v : Level5) (b g r : Byte), s.seq = 65 + 96 * p.val → levelOfBrt s.pix[p].brt = v →
      s.pix[p].b = b → s.pix[p].g = g → s.pix[p].r = r → s.NoFail 96 →
      ∃ t, exec (.ledframe v b g r) s = .next t ∧ WriteFrame s t ∧
      t.seq = s.seq + 96 ∧ t.txBusy = true ∧ t.out = s.out ∧ t.calls = s.calls + 96 ∧
      t.trace = s.trace ++ (List.range 32).flatMap fun j =>
        [⟨.data, (ledFrameWord v b g r).getLsbD (31 - j), true⟩, ⟨.clk, true, true⟩, ⟨.clk, false, true⟩]) ∧
    (s.seq = 833 → s.NoFail 73 → ∃ t, exec .eof s = .next t ∧ TransmitFrame s t ∧
      t.out = .response (.ok .none) ∧ t.calls = s.calls + 73 ∧
      t.trace = s.trace ++ ⟨.data, false, true⟩ ::
        (List.replicate 36 [Event.mk .clk true true, Event.mk .clk false true]).flatten)

/-- A wire frame ends at its first failed write with the stage it belongs to, and the transmission with it
(R126, R184): the events before it, the failed attempt, nothing after it. That a frame is an instruction of
its own is the model's choice (log 9). -/
def Obligations.WireFramesStopAtFirstFailure : Prop :=
  ∀ (s : State) (f : Nat), s.txBusy = true → s.FirstFail f →
    (s.seq = 0 → f < 65 → ∃ t, exec .sof s = .next t ∧ TransmitFrame s t ∧
      t.out = .response (.transmitError .sof) ∧ t.calls = s.calls + f + 1 ∧
      t.trace = s.trace ++ okEventsFrom s.pix 0 f ++ [failEvent s.pix f]) ∧
    (∀ p : Fin 8, s.seq = 65 + 96 * p.val → f < 96 →
      ∃ t, exec (.ledframe (levelOfBrt s.pix[p].brt) s.pix[p].b s.pix[p].g s.pix[p].r) s = .next t ∧
      TransmitFrame s t ∧ t.out = .response (.transmitError (.pixel p (Fin.ofNat 4 (f / 24)))) ∧
      t.calls = s.calls + f + 1 ∧
      t.trace = s.trace ++ okEventsFrom s.pix s.seq f ++ [failEvent s.pix (s.seq + f)]) ∧
    (s.seq = 833 → f < 73 → ∃ t, exec .eof s = .next t ∧ TransmitFrame s t ∧
      t.out = .response (.transmitError .eof) ∧ t.calls = s.calls + f + 1 ∧
      t.trace = s.trace ++ okEventsFrom s.pix 833 f ++ [failEvent s.pix (833 + f)])

/-- A complete transmission is the start-of-frame, the LED frames of pixels 0 to 7, the end-of-frame, 32 +
256 + 36 = 324 bits in this order (R60): as writes, as bits, and as the frames executed one after another. -/
def Obligations.TransmissionIsItsFramesInOrder : Prop :=
  (∀ pix : Vector Pixel 8,
    protocolWrites pix = sofWrites ++
      (chain.flatMap fun p => ledWrites p (levelOfBrt pix[p].brt) pix[p].b pix[p].g pix[p].r) ++ eofWrites ∧
    bitString pix = List.replicate 32 false ++ frame pix 0 ++ frame pix 1 ++ frame pix 2 ++ frame pix 3
      ++ frame pix 4 ++ frame pix 5 ++ frame pix 6 ++ frame pix 7 ++ List.replicate 36 false ∧
    (bitString pix).length = 324) ∧
  ∀ s : State, s.Usable → s.NoFail 906 →
    execAll (frameInstrs s.pix) s.txAccept = exec .transmit s

/-! ## Lifecycle -/

/-- The reset, CONSTRUCT on a fresh GPIOSIM, takes the values of R29's middle column to those of its right
column, whatever the OPEN parameters are. The initial line levels are the spec's decision D10, CALLS its D28. -/
def Obligations.ConstructLeavesResetValues : Prop :=
  ∀ (cfg : Config) (fail : FailOracle) (cot : Bit),
    (∀ v, v = State.powerOn cfg fail →
      v.hdata = none ∧ v.hclk = none ∧ v.life = .void ∧ v.seq = 0 ∧ v.txBusy = false ∧ v.chipOpen = false ∧
      v.claimed = [] ∧ (∀ n, levelAt n v.line = none) ∧ v.trace = [] ∧ v.hist = [] ∧ v.calls = 0) ∧
    (cfg.dataLine ≠ cfg.clkLine → cfg.dataLine < cfg.numLines → cfg.clkLine < cfg.numLines →
    (State.powerOn cfg fail).NoFail 3 → ∃ t, exec (.construct cot) (State.powerOn cfg fail) = .next t ∧
      (∀ i : Fin 8, t.pix[i] = ⟨0, 0, 0, 0xE0 ||| BitVec.ofNat 8 cfg.defaultLevel5.toNat⟩) ∧
      t.cot = cot ∧ t.hdata = some cfg.dataLine ∧ t.hclk = some cfg.clkLine ∧ t.life = .live ∧
      t.seq = 0 ∧ t.txBusy = false ∧ t.chipOpen = true ∧
      (∀ n, n ∈ t.claimed ↔ n = cfg.dataLine ∨ n = cfg.clkLine) ∧
      levelAt cfg.dataLine t.line = some false ∧ levelAt cfg.clkLine t.line = some false ∧
      t.trace = [] ∧ t.hist = [(false, false)] ∧ t.calls = 3 ∧ t.out = .response (.ok .none))

/-- CONSTRUCT in any VOID state whose two lines are valid, different and unclaimed, with no call failing
(R141, R144): pixels initialised, both lines claimed at level 0, LIVE, and TRACE unchanged. The levels 0
are the spec's decision D10. HIST begins with (0, 0) (R165); that a HIST which has begun is kept is the model's
choice (log 15). -/
def Obligations.ConstructSucceeds : Prop :=
  ∀ (cot : Bit) (s : State), s.txBusy = false → s.life = .void →
    s.cfg.dataLine ≠ s.cfg.clkLine → s.cfg.dataLine < s.cfg.numLines → s.cfg.clkLine < s.cfg.numLines →
    s.cfg.dataLine ∉ s.claimed → s.cfg.clkLine ∉ s.claimed → s.NoFail 3 →
    ∃ t, exec (.construct cot) s = .next t ∧
      t.pix = Vector.replicate 8 ⟨0, 0, 0, 0xE0 ||| BitVec.ofNat 8 s.cfg.defaultLevel5.toNat⟩ ∧
      t.cot = cot ∧ t.hdata = some s.cfg.dataLine ∧ t.hclk = some s.cfg.clkLine ∧ t.life = .live ∧
      t.chipOpen = true ∧ t.calls = s.calls + 3 ∧ t.seq = 0 ∧ t.txBusy = false ∧
      (∀ n, n ∈ t.claimed ↔ n ∈ s.claimed ∨ n = s.cfg.dataLine ∨ n = s.cfg.clkLine) ∧
      levelAt s.cfg.dataLine t.line = some false ∧ levelAt s.cfg.clkLine t.line = some false ∧
      (∀ n, n ≠ s.cfg.dataLine → n ≠ s.cfg.clkLine → levelAt n t.line = levelAt n s.line) ∧
      t.trace = s.trace ∧ t.hist = (if s.hist = [] then [(false, false)] else s.hist) ∧ t.out = .response (.ok .none) ∧
      t.draws = s.draws ∧ SameEnv s t

/-- A failed CONSTRUCT (R143, R185, R191; the order of the calls and the release are decision D12): the first failing call in the order chip, data line, clock line
is the error; LIFE stays VOID, no handle is held, and no line is left claimed by the block. -/
def Obligations.ConstructFailsAtFirstCall : Prop :=
  ∀ (cot : Bit) (s : State), s.txBusy = false → s.life = .void → ∀ e n,
    (e = .acquireChipError ∧ n = 1 ∧ s.fail.fails s.calls = true ∨
     e = .acquireLineError .data ∧ n = 2 ∧ s.fail.fails s.calls = false ∧
      (s.cfg.numLines ≤ s.cfg.dataLine ∨ s.cfg.dataLine ∈ s.claimed ∨ s.fail.fails (s.calls + 1) = true) ∨
     e = .acquireLineError .clk ∧ n = 3 ∧ s.fail.fails s.calls = false ∧ s.fail.fails (s.calls + 1) = false ∧
      s.cfg.dataLine < s.cfg.numLines ∧ s.cfg.dataLine ∉ s.claimed ∧
      (s.cfg.numLines ≤ s.cfg.clkLine ∨ s.cfg.clkLine ∈ s.claimed ∨ s.cfg.clkLine = s.cfg.dataLine ∨
        s.fail.fails (s.calls + 2) = true)) →
    ∃ t, exec (.construct cot) s = .next t ∧ t.out = .response e ∧ t.calls = s.calls + n ∧
      t.life = .void ∧ t.hdata = none ∧ t.hclk = none ∧ t.claimed = s.claimed ∧ t.pix = s.pix ∧
      t.cot = s.cot ∧ t.trace = s.trace ∧ (s.held s.cfg.clkLine = false → t.hist = s.hist) ∧
      (∀ m, m ≠ s.cfg.dataLine → levelAt m t.line = levelAt m s.line) ∧
      t.chipOpen = (if n = 1 then s.chipOpen else true) ∧ t.draws = s.draws ∧
      t.seq = 0 ∧ t.txBusy = false ∧ SameEnv s t

/-- `State.reset` is what the reset operation makes of the state before any CONSTRUCT; the parameters'
values and COT = 1 are the model's choice (logs 1 and 3). -/
def Obligations.ResetStateIsConstructed : Prop :=
  exec (.construct true) (State.powerOn Config.illustration FailOracle.never) = .next State.reset

/-- TEARDOWN with COT = 1 and no failing write (R146, R147; that the clear is CLRALL, decision D13): the pixels are cleared, a transmission of
eight frames 0xE6000000 is appended, both lines are released, LIFE is DEAD, the response Ok. -/
def Obligations.TeardownBlanksAndReleases : Prop :=
  ∀ s : State, s.Usable → s.cot = true → s.NoFail 906 →
    ∃ t, exec .teardown s = .next t ∧ t.out = .response (.ok .none) ∧ t.life = .dead ∧
      t.trace = s.trace ++ okEvents (Vector.replicate 8 ⟨0, 0, 0, 0xE6⟩) 906 ∧ t.calls = s.calls + 906 ∧
      (∀ p, bitsToNat (frame (Vector.replicate 8 ⟨0, 0, 0, 0xE6⟩) p) = 0xE6000000) ∧
      t.hdata = none ∧ t.hclk = none ∧ t.cot = s.cot ∧ t.chipOpen = s.chipOpen ∧ t.draws = s.draws ∧
      (∀ n, n ∈ t.claimed ↔ n ∈ s.claimed ∧ n ≠ s.lineNo .data ∧ n ≠ s.lineNo .clk) ∧
      levelAt (s.lineNo .data) t.line = none ∧ levelAt (s.lineNo .clk) t.line = none ∧
      (∀ n, n ≠ s.lineNo .data → n ≠ s.lineNo .clk → levelAt n t.line = levelAt n s.line) ∧
      t.seq = 0 ∧ t.txBusy = false ∧ SameEnv s t

/-- TEARDOWN never fails (R148, R188): if write f of its final transmission is the first to fail, the
failed attempt is in TRACE, nothing after it, and still both lines are released and the response is Ok. -/
def Obligations.TeardownSwallowsFailure : Prop :=
  ∀ (s : State) (f : Nat), s.Usable → s.cot = true → f < 906 → s.FirstFail f →
    ∃ t, exec .teardown s = .next t ∧ t.out = .response (.ok .none) ∧ t.life = .dead ∧
      t.trace = s.trace ++ okEvents (Vector.replicate 8 ⟨0, 0, 0, 0xE6⟩) f
        ++ [failEvent (Vector.replicate 8 ⟨0, 0, 0, 0xE6⟩) f] ∧
      t.calls = s.calls + f + 1 ∧ t.hdata = none ∧ t.hclk = none ∧ t.cot = s.cot ∧
      t.chipOpen = s.chipOpen ∧ t.draws = s.draws ∧
      (∀ n, n ∈ t.claimed ↔ n ∈ s.claimed ∧ n ≠ s.lineNo .data ∧ n ≠ s.lineNo .clk) ∧
      levelAt (s.lineNo .data) t.line = none ∧ levelAt (s.lineNo .clk) t.line = none ∧
      (∀ n, n ≠ s.lineNo .data → n ≠ s.lineNo .clk → levelAt n t.line = levelAt n s.line) ∧
      t.seq = 0 ∧ t.txBusy = false ∧ SameEnv s t

/-- TEARDOWN with COT = 0 writes no pixel, performs no line write, and only releases the lines (R149). -/
def Obligations.TeardownWithoutFlagOnlyReleases : Prop :=
  ∀ s : State, s.Usable → s.cot = false →
    exec .teardown s = .next { s with
      claimed := removeClaim (s.lineNo .clk) (removeClaim (s.lineNo .data) s.claimed)
      line := removeLevel (s.lineNo .clk) (removeLevel (s.lineNo .data) s.line)
      hdata := none, hclk := none, life := .dead
      seq := 0, txBusy := false, out := .response (.ok .none) }

/-- The transitions of LIFE (R20): VOID to LIVE by a successful CONSTRUCT, LIVE to DEAD by TEARDOWN, no
other, over every step. -/
def Obligations.LifecycleTransitions : Prop :=
  ∀ s t : State, step s = .next t → t.life = s.life ∨
    ∃ q rest, s.script = q :: rest ∧ t.out = .response (.ok .none) ∧
      (s.life = .void ∧ t.life = .live ∧ (∃ cot, decode (.d q.word) = .ok (.construct cot)) ∨
       s.life = .live ∧ t.life = .dead ∧ decode (.d q.word) = .ok .teardown)

/-- COT is loaded by a successful CONSTRUCT and by no other step (R18). -/
def Obligations.CotWrittenOnlyByConstruct : Prop :=
  ∀ s t : State, step s = .next t →
    (t.cot = s.cot ∨ s.life = .void ∧ t.life = .live) ∧
    (s.life = .void → t.life = .live → ∃ q rest cot, s.script = q :: rest ∧
      decode (.d q.word) = .ok (.construct cot) ∧ t.cot = cot)

/-- A new Driver on an old one's GPIOSIM starts from VOID; TRACE remains, and a successful CONSTRUCT of it
carries no pixel state over (R152). -/
def Obligations.NewDriverKeepsOnlyTheRecorder : Prop :=
  ∀ s : State, s.newDriver.life = .void ∧ s.newDriver.hdata = none ∧ s.newDriver.hclk = none ∧
    SameSim s s.newDriver ∧
    ∀ cot t, exec (.construct cot) s.newDriver = .next t → t.life = .live →
      t.trace = s.trace ∧ t.cot = cot ∧
      t.pix = Vector.replicate 8 ⟨0, 0, 0, 0xE0 ||| BitVec.ofNat 8 s.cfg.defaultLevel5.toNat⟩

/-! ## The GPIO collaborator -/

/-- OPEN (R157): counted; fails as the oracle says; else CHIPOPEN becomes 1, also on an open chip. -/
def Obligations.OpenSetsChipOpen : Prop :=
  ∀ s : State, s.txBusy = false →
    (s.fail.fails s.calls = false → exec .openchip s = .next { s with
      calls := s.calls + 1, chipOpen := true, out := .call .chipHandle }) ∧
    (s.fail.fails s.calls = true → exec .openchip s = .next { s with
      calls := s.calls + 1, out := .call .fail })

/-- REQLINE (R158, R160): on an open chip, for a valid unclaimed line, with no failure, the line is claimed
at its initial value; else the call fails and no state changes but CALLS. That the line number alone decides the
line, whatever `sel` is, and that DRV's handles stay, is the model's choice (log 12), and when HIST begins
likewise (log 15). -/
def Obligations.ReqlineClaimsFreeValidLine : Prop :=
  ∀ (sel : Line) (v : Bit) (s : State), s.txBusy = false →
    (s.Requestable s.lineNumber → s.fail.fails s.calls = false →
      ∃ t, exec (.reqline sel v) s = .next t ∧ t.out = .call (.lineHandle s.lineNumber) ∧
        (∀ n, n ∈ t.claimed ↔ n = s.lineNumber ∨ n ∈ s.claimed) ∧
        levelAt s.lineNumber t.line = some v ∧
        (∀ n, n ≠ s.lineNumber → levelAt n t.line = levelAt n s.line) ∧
        t.hist = (if s.hist = [] ∧ s.cfg.dataLine ≠ s.cfg.clkLine ∧ t.held s.cfg.dataLine = true ∧
          t.held s.cfg.clkLine = true then [t.levels] else s.hist) ∧
        t.trace = s.trace ∧ t.calls = s.calls + 1 ∧ t.chipOpen = s.chipOpen ∧ t.pix = s.pix ∧
        t.draws = s.draws ∧ t.seq = s.seq ∧ t.txBusy = false ∧ SameDriver s t ∧ SameEnv s t) ∧
    (¬ s.Requestable s.lineNumber ∨ s.fail.fails s.calls = true →
      exec (.reqline sel v) s = .next { s with calls := s.calls + 1, out := .call .fail })

/-- SETVAL (R161 to R163): on success the line holds v at once and W(l, v, ok) is appended; on failure the line
holds some level (the spec's decision D15) and W(l, v, fail) is appended; the other lines never change. R161's
operand is a valid line handle; that the rule runs for a line nobody holds too, which then has a level, and
that DRV's handles stay, is the model's deduction (log 12, unsafe there), that it runs while a transmission
does likewise (R155; log 10), and that an unbegun HIST stays empty its choice (log 15). -/
def Obligations.SetvalDrivesOneLine : Prop :=
  ∀ (sel : Line) (v : Bit) (s : State), ∃ t u, exec (.setval sel v) s = .next t ∧
      levelAt (s.cfg.lineNo sel) t.line = some u ∧ (s.fail.fails s.calls = false → u = v) ∧
      t.out = .call (if s.fail.fails s.calls then .fail else .ok) ∧
      t.trace = s.trace ++ [⟨sel, v, !s.fail.fails s.calls⟩] ∧
      t.hist = (if s.hist = [] then [] else s.hist ++ [t.levels]) ∧
      (∀ n, n ≠ s.cfg.lineNo sel → levelAt n t.line = levelAt n s.line) ∧
      t.claimed = s.claimed ∧ t.calls = s.calls + 1 ∧ t.chipOpen = s.chipOpen ∧ t.pix = s.pix ∧
      t.draws = s.draws ∧ t.seq = s.seq ∧ t.txBusy = s.txBusy ∧ SameDriver s t ∧ SameEnv s t

/-- RELEASE (R164): CLAIMED loses the line, its level is no longer defined; it cannot fail, makes no numbered
call and no event. R164's operand is a valid line handle; that the rule runs for a line nobody holds too, and
that DRV's handle registers stay, is the model's deduction (log 12). -/
def Obligations.ReleaseFreesTheLine : Prop :=
  ∀ (sel : Line) (s : State), s.txBusy = false →
    ∃ t, exec (.release sel) s = .next t ∧ t.out = .call .released ∧
      (∀ n, n ∈ t.claimed ↔ n ∈ s.claimed ∧ n ≠ s.cfg.lineNo sel) ∧
      levelAt (s.cfg.lineNo sel) t.line = none ∧
      (∀ n, n ≠ s.cfg.lineNo sel → levelAt n t.line = levelAt n s.line) ∧
      t.calls = s.calls ∧ t.trace = s.trace ∧ t.hist = s.hist ∧ t.chipOpen = s.chipOpen ∧
      t.pix = s.pix ∧ t.draws = s.draws ∧ t.seq = s.seq ∧ t.txBusy = false ∧ SameDriver s t ∧ SameEnv s t

/-! ## Whole-machine statements -/

/-- Both invariants hold right after reset and, whatever the parameters and the oracle are, before any CONSTRUCT. -/
def Obligations.ResetMeetsInvariant : Prop :=
  Inv State.reset ∧ Owned State.reset ∧ ∀ cfg fail, Inv (State.powerOn cfg fail) ∧ Owned (State.powerOn cfg fail)

/-- Every step keeps the invariant: the marker bits (R16), the sequencer's rest and range (R22, R23), the
handles (R19, R30), and the canonical forms of CLAIMED and LINE. And where no word comes to a unit from
outside DRV's commands, every step keeps it so, and DRV holds its two lines as long as it is LIVE (R159). -/
def Obligations.StepKeepsInvariant : Prop :=
  (∀ s t : State, Inv s → step s = .next t → Inv t) ∧
  ∀ s t : State, Inv s → Owned s → step s = .next t → Owned t

/-- TRACE "is never cleared and never reordered" (R165), CALLS never goes back, and the
parameters never change (R27): over every step. That HIST is never begun anew is the model's choice (log 15),
and that the parameters and the oracle are fields no step writes likewise (logs 3 and 4). -/
def Obligations.RecorderOnlyGrows : Prop :=
  ∀ s t : State, step s = .next t →
    s.trace <+: t.trace ∧ s.hist <+: t.hist ∧ s.calls ≤ t.calls ∧ t.cfg = s.cfg ∧ t.fail = s.fail

/-- In a state that meets the invariant a running transmission always goes on (R124): the step of a busy block is
never refused and makes one call, and within 906 - SEQ steps the transmission has ended (R219). -/
def Obligations.BusyBlockAlwaysSteps : Prop :=
  ∀ s : State, Inv s → s.unitPort = none → s.txBusy = true →
    (∃ t, step s = .next t ∧ t.calls = s.calls + 1) ∧
    ∃ k t, k ≤ 906 - s.seq ∧ Host.Core.run Sys2Proof.core k s = .next t ∧ t.txBusy = false
end

