-- ==== Sys2Proof/Laws/State.lean ====
section
/-! SUPPORT. One lemma per field per named update of the state, so that no proof unfolds an update. -/

namespace Sys2Proof.Machine

/-! ### respond -/

@[simp] theorem State.respond_cfg (s : State) (r : Response) : (s.respond r).cfg = s.cfg := rfl
@[simp] theorem State.respond_fail (s : State) (r : Response) : (s.respond r).fail = s.fail := rfl
@[simp] theorem State.respond_pix (s : State) (r : Response) : (s.respond r).pix = s.pix := rfl
@[simp] theorem State.respond_cot (s : State) (r : Response) : (s.respond r).cot = s.cot := rfl
@[simp] theorem State.respond_hdata (s : State) (r : Response) : (s.respond r).hdata = s.hdata := rfl
@[simp] theorem State.respond_hclk (s : State) (r : Response) : (s.respond r).hclk = s.hclk := rfl
@[simp] theorem State.respond_life (s : State) (r : Response) : (s.respond r).life = s.life := rfl
@[simp] theorem State.respond_seq (s : State) (r : Response) : (s.respond r).seq = 0 := rfl
@[simp] theorem State.respond_txBusy (s : State) (r : Response) : (s.respond r).txBusy = false := rfl
@[simp] theorem State.respond_chipOpen (s : State) (r : Response) : (s.respond r).chipOpen = s.chipOpen := rfl
@[simp] theorem State.respond_claimed (s : State) (r : Response) : (s.respond r).claimed = s.claimed := rfl
@[simp] theorem State.respond_line (s : State) (r : Response) : (s.respond r).line = s.line := rfl
@[simp] theorem State.respond_trace (s : State) (r : Response) : (s.respond r).trace = s.trace := rfl
@[simp] theorem State.respond_hist (s : State) (r : Response) : (s.respond r).hist = s.hist := rfl
@[simp] theorem State.respond_calls (s : State) (r : Response) : (s.respond r).calls = s.calls := rfl
@[simp] theorem State.respond_draws (s : State) (r : Response) : (s.respond r).draws = s.draws := rfl
@[simp] theorem State.respond_lvl (s : State) (r : Response) : (s.respond r).lvl = s.lvl := rfl
@[simp] theorem State.respond_cell (s : State) (r : Response) : (s.respond r).cell = s.cell := rfl
@[simp] theorem State.respond_lineNumber (s : State) (r : Response) : (s.respond r).lineNumber = s.lineNumber := rfl
@[simp] theorem State.respond_script (s : State) (r : Response) : (s.respond r).script = s.script := rfl
@[simp] theorem State.respond_unitPort (s : State) (r : Response) : (s.respond r).unitPort = s.unitPort := rfl
@[simp] theorem State.respond_out (s : State) (r : Response) : (s.respond r).out = .response r := rfl

/-! ### finishOk -/

@[simp] theorem State.finishOk_cfg (s : State) (p : Payload) : (s.finishOk p).cfg = s.cfg := rfl
@[simp] theorem State.finishOk_fail (s : State) (p : Payload) : (s.finishOk p).fail = s.fail := rfl
@[simp] theorem State.finishOk_pix (s : State) (p : Payload) : (s.finishOk p).pix = s.pix := rfl
@[simp] theorem State.finishOk_cot (s : State) (p : Payload) : (s.finishOk p).cot = s.cot := rfl
@[simp] theorem State.finishOk_hdata (s : State) (p : Payload) : (s.finishOk p).hdata = s.hdata := rfl
@[simp] theorem State.finishOk_hclk (s : State) (p : Payload) : (s.finishOk p).hclk = s.hclk := rfl
@[simp] theorem State.finishOk_life (s : State) (p : Payload) : (s.finishOk p).life = s.life := rfl
@[simp] theorem State.finishOk_seq (s : State) (p : Payload) : (s.finishOk p).seq = 0 := rfl
@[simp] theorem State.finishOk_txBusy (s : State) (p : Payload) : (s.finishOk p).txBusy = false := rfl
@[simp] theorem State.finishOk_chipOpen (s : State) (p : Payload) : (s.finishOk p).chipOpen = s.chipOpen := rfl
@[simp] theorem State.finishOk_claimed (s : State) (p : Payload) : (s.finishOk p).claimed = s.claimed := rfl
@[simp] theorem State.finishOk_line (s : State) (p : Payload) : (s.finishOk p).line = s.line := rfl
@[simp] theorem State.finishOk_trace (s : State) (p : Payload) : (s.finishOk p).trace = s.trace := rfl
@[simp] theorem State.finishOk_hist (s : State) (p : Payload) : (s.finishOk p).hist = s.hist := rfl
@[simp] theorem State.finishOk_calls (s : State) (p : Payload) : (s.finishOk p).calls = s.calls := rfl
@[simp] theorem State.finishOk_draws (s : State) (p : Payload) : (s.finishOk p).draws = s.draws := rfl
@[simp] theorem State.finishOk_lvl (s : State) (p : Payload) : (s.finishOk p).lvl = s.lvl := rfl
@[simp] theorem State.finishOk_cell (s : State) (p : Payload) : (s.finishOk p).cell = s.cell := rfl
@[simp] theorem State.finishOk_lineNumber (s : State) (p : Payload) : (s.finishOk p).lineNumber = s.lineNumber := rfl
@[simp] theorem State.finishOk_script (s : State) (p : Payload) : (s.finishOk p).script = s.script := rfl
@[simp] theorem State.finishOk_unitPort (s : State) (p : Payload) : (s.finishOk p).unitPort = s.unitPort := rfl
@[simp] theorem State.finishOk_out (s : State) (p : Payload) : (s.finishOk p).out = .response (.ok p) := rfl

/-! ### raise -/

@[simp] theorem State.raise_cfg (s : State) (e : Response) : (s.raise e).cfg = s.cfg := rfl
@[simp] theorem State.raise_fail (s : State) (e : Response) : (s.raise e).fail = s.fail := rfl
@[simp] theorem State.raise_pix (s : State) (e : Response) : (s.raise e).pix = s.pix := rfl
@[simp] theorem State.raise_cot (s : State) (e : Response) : (s.raise e).cot = s.cot := rfl
@[simp] theorem State.raise_hdata (s : State) (e : Response) : (s.raise e).hdata = s.hdata := rfl
@[simp] theorem State.raise_hclk (s : State) (e : Response) : (s.raise e).hclk = s.hclk := rfl
@[simp] theorem State.raise_life (s : State) (e : Response) : (s.raise e).life = s.life := rfl
@[simp] theorem State.raise_seq (s : State) (e : Response) : (s.raise e).seq = 0 := rfl
@[simp] theorem State.raise_txBusy (s : State) (e : Response) : (s.raise e).txBusy = false := rfl
@[simp] theorem State.raise_chipOpen (s : State) (e : Response) : (s.raise e).chipOpen = s.chipOpen := rfl
@[simp] theorem State.raise_claimed (s : State) (e : Response) : (s.raise e).claimed = s.claimed := rfl
@[simp] theorem State.raise_line (s : State) (e : Response) : (s.raise e).line = s.line := rfl
@[simp] theorem State.raise_trace (s : State) (e : Response) : (s.raise e).trace = s.trace := rfl
@[simp] theorem State.raise_hist (s : State) (e : Response) : (s.raise e).hist = s.hist := rfl
@[simp] theorem State.raise_calls (s : State) (e : Response) : (s.raise e).calls = s.calls := rfl
@[simp] theorem State.raise_draws (s : State) (e : Response) : (s.raise e).draws = s.draws := rfl
@[simp] theorem State.raise_lvl (s : State) (e : Response) : (s.raise e).lvl = s.lvl := rfl
@[simp] theorem State.raise_cell (s : State) (e : Response) : (s.raise e).cell = s.cell := rfl
@[simp] theorem State.raise_lineNumber (s : State) (e : Response) : (s.raise e).lineNumber = s.lineNumber := rfl
@[simp] theorem State.raise_script (s : State) (e : Response) : (s.raise e).script = s.script := rfl
@[simp] theorem State.raise_unitPort (s : State) (e : Response) : (s.raise e).unitPort = s.unitPort := rfl
@[simp] theorem State.raise_out (s : State) (e : Response) : (s.raise e).out = .response e := rfl

/-! ### answer -/

@[simp] theorem State.answer_cfg (s : State) (p : Payload) : (s.answer p).cfg = s.cfg := rfl
@[simp] theorem State.answer_fail (s : State) (p : Payload) : (s.answer p).fail = s.fail := rfl
@[simp] theorem State.answer_pix (s : State) (p : Payload) : (s.answer p).pix = s.pix := rfl
@[simp] theorem State.answer_cot (s : State) (p : Payload) : (s.answer p).cot = s.cot := rfl
@[simp] theorem State.answer_hdata (s : State) (p : Payload) : (s.answer p).hdata = s.hdata := rfl
@[simp] theorem State.answer_hclk (s : State) (p : Payload) : (s.answer p).hclk = s.hclk := rfl
@[simp] theorem State.answer_life (s : State) (p : Payload) : (s.answer p).life = s.life := rfl
@[simp] theorem State.answer_seq (s : State) (p : Payload) : (s.answer p).seq = s.seq := rfl
@[simp] theorem State.answer_txBusy (s : State) (p : Payload) : (s.answer p).txBusy = s.txBusy := rfl
@[simp] theorem State.answer_chipOpen (s : State) (p : Payload) : (s.answer p).chipOpen = s.chipOpen := rfl
@[simp] theorem State.answer_claimed (s : State) (p : Payload) : (s.answer p).claimed = s.claimed := rfl
@[simp] theorem State.answer_line (s : State) (p : Payload) : (s.answer p).line = s.line := rfl
@[simp] theorem State.answer_trace (s : State) (p : Payload) : (s.answer p).trace = s.trace := rfl
@[simp] theorem State.answer_hist (s : State) (p : Payload) : (s.answer p).hist = s.hist := rfl
@[simp] theorem State.answer_calls (s : State) (p : Payload) : (s.answer p).calls = s.calls := rfl
@[simp] theorem State.answer_draws (s : State) (p : Payload) : (s.answer p).draws = s.draws := rfl
@[simp] theorem State.answer_lvl (s : State) (p : Payload) : (s.answer p).lvl = s.lvl := rfl
@[simp] theorem State.answer_cell (s : State) (p : Payload) : (s.answer p).cell = s.cell := rfl
@[simp] theorem State.answer_lineNumber (s : State) (p : Payload) : (s.answer p).lineNumber = s.lineNumber := rfl
@[simp] theorem State.answer_script (s : State) (p : Payload) : (s.answer p).script = s.script := rfl
@[simp] theorem State.answer_unitPort (s : State) (p : Payload) : (s.answer p).unitPort = s.unitPort := rfl
@[simp] theorem State.answer_out (s : State) (p : Payload) : (s.answer p).out = .response (.ok p) := rfl

/-! ### returnCall -/

@[simp] theorem State.returnCall_cfg (s : State) (c : CallResult) : (s.returnCall c).cfg = s.cfg := rfl
@[simp] theorem State.returnCall_fail (s : State) (c : CallResult) : (s.returnCall c).fail = s.fail := rfl
@[simp] theorem State.returnCall_pix (s : State) (c : CallResult) : (s.returnCall c).pix = s.pix := rfl
@[simp] theorem State.returnCall_cot (s : State) (c : CallResult) : (s.returnCall c).cot = s.cot := rfl
@[simp] theorem State.returnCall_hdata (s : State) (c : CallResult) : (s.returnCall c).hdata = s.hdata := rfl
@[simp] theorem State.returnCall_hclk (s : State) (c : CallResult) : (s.returnCall c).hclk = s.hclk := rfl
@[simp] theorem State.returnCall_life (s : State) (c : CallResult) : (s.returnCall c).life = s.life := rfl
@[simp] theorem State.returnCall_seq (s : State) (c : CallResult) : (s.returnCall c).seq = s.seq := rfl
@[simp] theorem State.returnCall_txBusy (s : State) (c : CallResult) : (s.returnCall c).txBusy = s.txBusy := rfl
@[simp] theorem State.returnCall_chipOpen (s : State) (c : CallResult) : (s.returnCall c).chipOpen = s.chipOpen := rfl
@[simp] theorem State.returnCall_claimed (s : State) (c : CallResult) : (s.returnCall c).claimed = s.claimed := rfl
@[simp] theorem State.returnCall_line (s : State) (c : CallResult) : (s.returnCall c).line = s.line := rfl
@[simp] theorem State.returnCall_trace (s : State) (c : CallResult) : (s.returnCall c).trace = s.trace := rfl
@[simp] theorem State.returnCall_hist (s : State) (c : CallResult) : (s.returnCall c).hist = s.hist := rfl
@[simp] theorem State.returnCall_calls (s : State) (c : CallResult) : (s.returnCall c).calls = s.calls := rfl
@[simp] theorem State.returnCall_draws (s : State) (c : CallResult) : (s.returnCall c).draws = s.draws := rfl
@[simp] theorem State.returnCall_lvl (s : State) (c : CallResult) : (s.returnCall c).lvl = s.lvl := rfl
@[simp] theorem State.returnCall_cell (s : State) (c : CallResult) : (s.returnCall c).cell = s.cell := rfl
@[simp] theorem State.returnCall_lineNumber (s : State) (c : CallResult) : (s.returnCall c).lineNumber = s.lineNumber := rfl
@[simp] theorem State.returnCall_script (s : State) (c : CallResult) : (s.returnCall c).script = s.script := rfl
@[simp] theorem State.returnCall_unitPort (s : State) (c : CallResult) : (s.returnCall c).unitPort = s.unitPort := rfl
@[simp] theorem State.returnCall_out (s : State) (c : CallResult) : (s.returnCall c).out = .call c := rfl

/-! ### setThisPixel -/

@[simp] theorem State.setThisPixel_cfg (s : State) (p : Pixel) : (s.setThisPixel p).cfg = s.cfg := rfl
@[simp] theorem State.setThisPixel_fail (s : State) (p : Pixel) : (s.setThisPixel p).fail = s.fail := rfl
@[simp] theorem State.setThisPixel_pix (s : State) (p : Pixel) : (s.setThisPixel p).pix = s.pix.set s.cell p := rfl
@[simp] theorem State.setThisPixel_cot (s : State) (p : Pixel) : (s.setThisPixel p).cot = s.cot := rfl
@[simp] theorem State.setThisPixel_hdata (s : State) (p : Pixel) : (s.setThisPixel p).hdata = s.hdata := rfl
@[simp] theorem State.setThisPixel_hclk (s : State) (p : Pixel) : (s.setThisPixel p).hclk = s.hclk := rfl
@[simp] theorem State.setThisPixel_life (s : State) (p : Pixel) : (s.setThisPixel p).life = s.life := rfl
@[simp] theorem State.setThisPixel_seq (s : State) (p : Pixel) : (s.setThisPixel p).seq = s.seq := rfl
@[simp] theorem State.setThisPixel_txBusy (s : State) (p : Pixel) : (s.setThisPixel p).txBusy = s.txBusy := rfl
@[simp] theorem State.setThisPixel_chipOpen (s : State) (p : Pixel) : (s.setThisPixel p).chipOpen = s.chipOpen := rfl
@[simp] theorem State.setThisPixel_claimed (s : State) (p : Pixel) : (s.setThisPixel p).claimed = s.claimed := rfl
@[simp] theorem State.setThisPixel_line (s : State) (p : Pixel) : (s.setThisPixel p).line = s.line := rfl
@[simp] theorem State.setThisPixel_trace (s : State) (p : Pixel) : (s.setThisPixel p).trace = s.trace := rfl
@[simp] theorem State.setThisPixel_hist (s : State) (p : Pixel) : (s.setThisPixel p).hist = s.hist := rfl
@[simp] theorem State.setThisPixel_calls (s : State) (p : Pixel) : (s.setThisPixel p).calls = s.calls := rfl
@[simp] theorem State.setThisPixel_draws (s : State) (p : Pixel) : (s.setThisPixel p).draws = s.draws := rfl
@[simp] theorem State.setThisPixel_lvl (s : State) (p : Pixel) : (s.setThisPixel p).lvl = s.lvl := rfl
@[simp] theorem State.setThisPixel_cell (s : State) (p : Pixel) : (s.setThisPixel p).cell = s.cell := rfl
@[simp] theorem State.setThisPixel_lineNumber (s : State) (p : Pixel) : (s.setThisPixel p).lineNumber = s.lineNumber := rfl
@[simp] theorem State.setThisPixel_script (s : State) (p : Pixel) : (s.setThisPixel p).script = s.script := rfl
@[simp] theorem State.setThisPixel_unitPort (s : State) (p : Pixel) : (s.setThisPixel p).unitPort = s.unitPort := rfl
@[simp] theorem State.setThisPixel_out (s : State) (p : Pixel) : (s.setThisPixel p).out = s.out := rfl

/-! ### setPixel -/

@[simp] theorem State.setPixel_cfg (s : State) (i : Fin 8) (p : Pixel) : (s.setPixel i p).cfg = s.cfg := rfl
@[simp] theorem State.setPixel_fail (s : State) (i : Fin 8) (p : Pixel) : (s.setPixel i p).fail = s.fail := rfl
@[simp] theorem State.setPixel_pix (s : State) (i : Fin 8) (p : Pixel) : (s.setPixel i p).pix = s.pix.set i p := rfl
@[simp] theorem State.setPixel_cot (s : State) (i : Fin 8) (p : Pixel) : (s.setPixel i p).cot = s.cot := rfl
@[simp] theorem State.setPixel_hdata (s : State) (i : Fin 8) (p : Pixel) : (s.setPixel i p).hdata = s.hdata := rfl
@[simp] theorem State.setPixel_hclk (s : State) (i : Fin 8) (p : Pixel) : (s.setPixel i p).hclk = s.hclk := rfl
@[simp] theorem State.setPixel_life (s : State) (i : Fin 8) (p : Pixel) : (s.setPixel i p).life = s.life := rfl
@[simp] theorem State.setPixel_seq (s : State) (i : Fin 8) (p : Pixel) : (s.setPixel i p).seq = s.seq := rfl
@[simp] theorem State.setPixel_txBusy (s : State) (i : Fin 8) (p : Pixel) : (s.setPixel i p).txBusy = s.txBusy := rfl
@[simp] theorem State.setPixel_chipOpen (s : State) (i : Fin 8) (p : Pixel) : (s.setPixel i p).chipOpen = s.chipOpen := rfl
@[simp] theorem State.setPixel_claimed (s : State) (i : Fin 8) (p : Pixel) : (s.setPixel i p).claimed = s.claimed := rfl
@[simp] theorem State.setPixel_line (s : State) (i : Fin 8) (p : Pixel) : (s.setPixel i p).line = s.line := rfl
@[simp] theorem State.setPixel_trace (s : State) (i : Fin 8) (p : Pixel) : (s.setPixel i p).trace = s.trace := rfl
@[simp] theorem State.setPixel_hist (s : State) (i : Fin 8) (p : Pixel) : (s.setPixel i p).hist = s.hist := rfl
@[simp] theorem State.setPixel_calls (s : State) (i : Fin 8) (p : Pixel) : (s.setPixel i p).calls = s.calls := rfl
@[simp] theorem State.setPixel_draws (s : State) (i : Fin 8) (p : Pixel) : (s.setPixel i p).draws = s.draws := rfl
@[simp] theorem State.setPixel_lvl (s : State) (i : Fin 8) (p : Pixel) : (s.setPixel i p).lvl = s.lvl := rfl
@[simp] theorem State.setPixel_cell (s : State) (i : Fin 8) (p : Pixel) : (s.setPixel i p).cell = s.cell := rfl
@[simp] theorem State.setPixel_lineNumber (s : State) (i : Fin 8) (p : Pixel) : (s.setPixel i p).lineNumber = s.lineNumber := rfl
@[simp] theorem State.setPixel_script (s : State) (i : Fin 8) (p : Pixel) : (s.setPixel i p).script = s.script := rfl
@[simp] theorem State.setPixel_unitPort (s : State) (i : Fin 8) (p : Pixel) : (s.setPixel i p).unitPort = s.unitPort := rfl
@[simp] theorem State.setPixel_out (s : State) (i : Fin 8) (p : Pixel) : (s.setPixel i p).out = s.out := rfl

/-! ### setPixels -/

@[simp] theorem State.setPixels_cfg (s : State) (f : Fin 8 → Pixel) : (s.setPixels f).cfg = s.cfg := rfl
@[simp] theorem State.setPixels_fail (s : State) (f : Fin 8 → Pixel) : (s.setPixels f).fail = s.fail := rfl
@[simp] theorem State.setPixels_pix (s : State) (f : Fin 8 → Pixel) : (s.setPixels f).pix = Vector.ofFn f := rfl
@[simp] theorem State.setPixels_cot (s : State) (f : Fin 8 → Pixel) : (s.setPixels f).cot = s.cot := rfl
@[simp] theorem State.setPixels_hdata (s : State) (f : Fin 8 → Pixel) : (s.setPixels f).hdata = s.hdata := rfl
@[simp] theorem State.setPixels_hclk (s : State) (f : Fin 8 → Pixel) : (s.setPixels f).hclk = s.hclk := rfl
@[simp] theorem State.setPixels_life (s : State) (f : Fin 8 → Pixel) : (s.setPixels f).life = s.life := rfl
@[simp] theorem State.setPixels_seq (s : State) (f : Fin 8 → Pixel) : (s.setPixels f).seq = s.seq := rfl
@[simp] theorem State.setPixels_txBusy (s : State) (f : Fin 8 → Pixel) : (s.setPixels f).txBusy = s.txBusy := rfl
@[simp] theorem State.setPixels_chipOpen (s : State) (f : Fin 8 → Pixel) : (s.setPixels f).chipOpen = s.chipOpen := rfl
@[simp] theorem State.setPixels_claimed (s : State) (f : Fin 8 → Pixel) : (s.setPixels f).claimed = s.claimed := rfl
@[simp] theorem State.setPixels_line (s : State) (f : Fin 8 → Pixel) : (s.setPixels f).line = s.line := rfl
@[simp] theorem State.setPixels_trace (s : State) (f : Fin 8 → Pixel) : (s.setPixels f).trace = s.trace := rfl
@[simp] theorem State.setPixels_hist (s : State) (f : Fin 8 → Pixel) : (s.setPixels f).hist = s.hist := rfl
@[simp] theorem State.setPixels_calls (s : State) (f : Fin 8 → Pixel) : (s.setPixels f).calls = s.calls := rfl
@[simp] theorem State.setPixels_draws (s : State) (f : Fin 8 → Pixel) : (s.setPixels f).draws = s.draws := rfl
@[simp] theorem State.setPixels_lvl (s : State) (f : Fin 8 → Pixel) : (s.setPixels f).lvl = s.lvl := rfl
@[simp] theorem State.setPixels_cell (s : State) (f : Fin 8 → Pixel) : (s.setPixels f).cell = s.cell := rfl
@[simp] theorem State.setPixels_lineNumber (s : State) (f : Fin 8 → Pixel) : (s.setPixels f).lineNumber = s.lineNumber := rfl
@[simp] theorem State.setPixels_script (s : State) (f : Fin 8 → Pixel) : (s.setPixels f).script = s.script := rfl
@[simp] theorem State.setPixels_unitPort (s : State) (f : Fin 8 → Pixel) : (s.setPixels f).unitPort = s.unitPort := rfl
@[simp] theorem State.setPixels_out (s : State) (f : Fin 8 → Pixel) : (s.setPixels f).out = s.out := rfl

/-! ### useLevel -/

@[simp] theorem State.useLevel_cfg (s : State) (n : Nat) : (s.useLevel n).cfg = s.cfg := rfl
@[simp] theorem State.useLevel_fail (s : State) (n : Nat) : (s.useLevel n).fail = s.fail := rfl
@[simp] theorem State.useLevel_pix (s : State) (n : Nat) : (s.useLevel n).pix = s.pix := rfl
@[simp] theorem State.useLevel_cot (s : State) (n : Nat) : (s.useLevel n).cot = s.cot := rfl
@[simp] theorem State.useLevel_hdata (s : State) (n : Nat) : (s.useLevel n).hdata = s.hdata := rfl
@[simp] theorem State.useLevel_hclk (s : State) (n : Nat) : (s.useLevel n).hclk = s.hclk := rfl
@[simp] theorem State.useLevel_life (s : State) (n : Nat) : (s.useLevel n).life = s.life := rfl
@[simp] theorem State.useLevel_seq (s : State) (n : Nat) : (s.useLevel n).seq = s.seq := rfl
@[simp] theorem State.useLevel_txBusy (s : State) (n : Nat) : (s.useLevel n).txBusy = s.txBusy := rfl
@[simp] theorem State.useLevel_chipOpen (s : State) (n : Nat) : (s.useLevel n).chipOpen = s.chipOpen := rfl
@[simp] theorem State.useLevel_claimed (s : State) (n : Nat) : (s.useLevel n).claimed = s.claimed := rfl
@[simp] theorem State.useLevel_line (s : State) (n : Nat) : (s.useLevel n).line = s.line := rfl
@[simp] theorem State.useLevel_trace (s : State) (n : Nat) : (s.useLevel n).trace = s.trace := rfl
@[simp] theorem State.useLevel_hist (s : State) (n : Nat) : (s.useLevel n).hist = s.hist := rfl
@[simp] theorem State.useLevel_calls (s : State) (n : Nat) : (s.useLevel n).calls = s.calls := rfl
@[simp] theorem State.useLevel_draws (s : State) (n : Nat) : (s.useLevel n).draws = s.drawsAfter n := rfl
@[simp] theorem State.useLevel_lvl (s : State) (n : Nat) : (s.useLevel n).lvl = s.lvl := rfl
@[simp] theorem State.useLevel_cell (s : State) (n : Nat) : (s.useLevel n).cell = s.cell := rfl
@[simp] theorem State.useLevel_lineNumber (s : State) (n : Nat) : (s.useLevel n).lineNumber = s.lineNumber := rfl
@[simp] theorem State.useLevel_script (s : State) (n : Nat) : (s.useLevel n).script = s.script := rfl
@[simp] theorem State.useLevel_unitPort (s : State) (n : Nat) : (s.useLevel n).unitPort = s.unitPort := rfl
@[simp] theorem State.useLevel_out (s : State) (n : Nat) : (s.useLevel n).out = s.out := rfl

/-! ### txAccept -/

@[simp] theorem State.txAccept_cfg (s : State) : (s.txAccept).cfg = s.cfg := rfl
@[simp] theorem State.txAccept_fail (s : State) : (s.txAccept).fail = s.fail := rfl
@[simp] theorem State.txAccept_pix (s : State) : (s.txAccept).pix = s.pix := rfl
@[simp] theorem State.txAccept_cot (s : State) : (s.txAccept).cot = s.cot := rfl
@[simp] theorem State.txAccept_hdata (s : State) : (s.txAccept).hdata = s.hdata := rfl
@[simp] theorem State.txAccept_hclk (s : State) : (s.txAccept).hclk = s.hclk := rfl
@[simp] theorem State.txAccept_life (s : State) : (s.txAccept).life = s.life := rfl
@[simp] theorem State.txAccept_seq (s : State) : (s.txAccept).seq = 0 := rfl
@[simp] theorem State.txAccept_txBusy (s : State) : (s.txAccept).txBusy = true := rfl
@[simp] theorem State.txAccept_chipOpen (s : State) : (s.txAccept).chipOpen = s.chipOpen := rfl
@[simp] theorem State.txAccept_claimed (s : State) : (s.txAccept).claimed = s.claimed := rfl
@[simp] theorem State.txAccept_line (s : State) : (s.txAccept).line = s.line := rfl
@[simp] theorem State.txAccept_trace (s : State) : (s.txAccept).trace = s.trace := rfl
@[simp] theorem State.txAccept_hist (s : State) : (s.txAccept).hist = s.hist := rfl
@[simp] theorem State.txAccept_calls (s : State) : (s.txAccept).calls = s.calls := rfl
@[simp] theorem State.txAccept_draws (s : State) : (s.txAccept).draws = s.draws := rfl
@[simp] theorem State.txAccept_lvl (s : State) : (s.txAccept).lvl = s.lvl := rfl
@[simp] theorem State.txAccept_cell (s : State) : (s.txAccept).cell = s.cell := rfl
@[simp] theorem State.txAccept_lineNumber (s : State) : (s.txAccept).lineNumber = s.lineNumber := rfl
@[simp] theorem State.txAccept_script (s : State) : (s.txAccept).script = s.script := rfl
@[simp] theorem State.txAccept_unitPort (s : State) : (s.txAccept).unitPort = s.unitPort := rfl
@[simp] theorem State.txAccept_out (s : State) : (s.txAccept).out = .nothing := rfl

/-! ### releaseLine -/

@[simp] theorem State.releaseLine_cfg (s : State) (n : Nat) : (s.releaseLine n).cfg = s.cfg := rfl
@[simp] theorem State.releaseLine_fail (s : State) (n : Nat) : (s.releaseLine n).fail = s.fail := rfl
@[simp] theorem State.releaseLine_pix (s : State) (n : Nat) : (s.releaseLine n).pix = s.pix := rfl
@[simp] theorem State.releaseLine_cot (s : State) (n : Nat) : (s.releaseLine n).cot = s.cot := rfl
@[simp] theorem State.releaseLine_hdata (s : State) (n : Nat) : (s.releaseLine n).hdata = s.hdata := rfl
@[simp] theorem State.releaseLine_hclk (s : State) (n : Nat) : (s.releaseLine n).hclk = s.hclk := rfl
@[simp] theorem State.releaseLine_life (s : State) (n : Nat) : (s.releaseLine n).life = s.life := rfl
@[simp] theorem State.releaseLine_seq (s : State) (n : Nat) : (s.releaseLine n).seq = s.seq := rfl
@[simp] theorem State.releaseLine_txBusy (s : State) (n : Nat) : (s.releaseLine n).txBusy = s.txBusy := rfl
@[simp] theorem State.releaseLine_chipOpen (s : State) (n : Nat) : (s.releaseLine n).chipOpen = s.chipOpen := rfl
@[simp] theorem State.releaseLine_claimed (s : State) (n : Nat) : (s.releaseLine n).claimed = removeClaim n s.claimed := rfl
@[simp] theorem State.releaseLine_line (s : State) (n : Nat) : (s.releaseLine n).line = removeLevel n s.line := rfl
@[simp] theorem State.releaseLine_trace (s : State) (n : Nat) : (s.releaseLine n).trace = s.trace := rfl
@[simp] theorem State.releaseLine_hist (s : State) (n : Nat) : (s.releaseLine n).hist = s.hist := rfl
@[simp] theorem State.releaseLine_calls (s : State) (n : Nat) : (s.releaseLine n).calls = s.calls := rfl
@[simp] theorem State.releaseLine_draws (s : State) (n : Nat) : (s.releaseLine n).draws = s.draws := rfl
@[simp] theorem State.releaseLine_lvl (s : State) (n : Nat) : (s.releaseLine n).lvl = s.lvl := rfl
@[simp] theorem State.releaseLine_cell (s : State) (n : Nat) : (s.releaseLine n).cell = s.cell := rfl
@[simp] theorem State.releaseLine_lineNumber (s : State) (n : Nat) : (s.releaseLine n).lineNumber = s.lineNumber := rfl
@[simp] theorem State.releaseLine_script (s : State) (n : Nat) : (s.releaseLine n).script = s.script := rfl
@[simp] theorem State.releaseLine_unitPort (s : State) (n : Nat) : (s.releaseLine n).unitPort = s.unitPort := rfl
@[simp] theorem State.releaseLine_out (s : State) (n : Nat) : (s.releaseLine n).out = s.out := rfl

/-! ### recordLevels -/

@[simp] theorem State.recordLevels_cfg (s : State) : (s.recordLevels).cfg = s.cfg := rfl
@[simp] theorem State.recordLevels_fail (s : State) : (s.recordLevels).fail = s.fail := rfl
@[simp] theorem State.recordLevels_pix (s : State) : (s.recordLevels).pix = s.pix := rfl
@[simp] theorem State.recordLevels_cot (s : State) : (s.recordLevels).cot = s.cot := rfl
@[simp] theorem State.recordLevels_hdata (s : State) : (s.recordLevels).hdata = s.hdata := rfl
@[simp] theorem State.recordLevels_hclk (s : State) : (s.recordLevels).hclk = s.hclk := rfl
@[simp] theorem State.recordLevels_life (s : State) : (s.recordLevels).life = s.life := rfl
@[simp] theorem State.recordLevels_seq (s : State) : (s.recordLevels).seq = s.seq := rfl
@[simp] theorem State.recordLevels_txBusy (s : State) : (s.recordLevels).txBusy = s.txBusy := rfl
@[simp] theorem State.recordLevels_chipOpen (s : State) : (s.recordLevels).chipOpen = s.chipOpen := rfl
@[simp] theorem State.recordLevels_claimed (s : State) : (s.recordLevels).claimed = s.claimed := rfl
@[simp] theorem State.recordLevels_line (s : State) : (s.recordLevels).line = s.line := rfl
@[simp] theorem State.recordLevels_trace (s : State) : (s.recordLevels).trace = s.trace := rfl
@[simp] theorem State.recordLevels_hist (s : State) : (s.recordLevels).hist = if s.hist = [] then [] else s.hist ++ [s.levels] := rfl
@[simp] theorem State.recordLevels_calls (s : State) : (s.recordLevels).calls = s.calls := rfl
@[simp] theorem State.recordLevels_draws (s : State) : (s.recordLevels).draws = s.draws := rfl
@[simp] theorem State.recordLevels_lvl (s : State) : (s.recordLevels).lvl = s.lvl := rfl
@[simp] theorem State.recordLevels_cell (s : State) : (s.recordLevels).cell = s.cell := rfl
@[simp] theorem State.recordLevels_lineNumber (s : State) : (s.recordLevels).lineNumber = s.lineNumber := rfl
@[simp] theorem State.recordLevels_script (s : State) : (s.recordLevels).script = s.script := rfl
@[simp] theorem State.recordLevels_unitPort (s : State) : (s.recordLevels).unitPort = s.unitPort := rfl
@[simp] theorem State.recordLevels_out (s : State) : (s.recordLevels).out = s.out := rfl

/-! ### present -/

@[simp] theorem State.present_cfg (s : State) (q : Request) (rest : List Request) : (s.present q rest).cfg = s.cfg := rfl
@[simp] theorem State.present_fail (s : State) (q : Request) (rest : List Request) : (s.present q rest).fail = s.fail := rfl
@[simp] theorem State.present_pix (s : State) (q : Request) (rest : List Request) : (s.present q rest).pix = s.pix := rfl
@[simp] theorem State.present_cot (s : State) (q : Request) (rest : List Request) : (s.present q rest).cot = s.cot := rfl
@[simp] theorem State.present_hdata (s : State) (q : Request) (rest : List Request) : (s.present q rest).hdata = s.hdata := rfl
@[simp] theorem State.present_hclk (s : State) (q : Request) (rest : List Request) : (s.present q rest).hclk = s.hclk := rfl
@[simp] theorem State.present_life (s : State) (q : Request) (rest : List Request) : (s.present q rest).life = s.life := rfl
@[simp] theorem State.present_seq (s : State) (q : Request) (rest : List Request) : (s.present q rest).seq = s.seq := rfl
@[simp] theorem State.present_txBusy (s : State) (q : Request) (rest : List Request) : (s.present q rest).txBusy = s.txBusy := rfl
@[simp] theorem State.present_chipOpen (s : State) (q : Request) (rest : List Request) : (s.present q rest).chipOpen = s.chipOpen := rfl
@[simp] theorem State.present_claimed (s : State) (q : Request) (rest : List Request) : (s.present q rest).claimed = s.claimed := rfl
@[simp] theorem State.present_line (s : State) (q : Request) (rest : List Request) : (s.present q rest).line = s.line := rfl
@[simp] theorem State.present_trace (s : State) (q : Request) (rest : List Request) : (s.present q rest).trace = s.trace := rfl
@[simp] theorem State.present_hist (s : State) (q : Request) (rest : List Request) : (s.present q rest).hist = s.hist := rfl
@[simp] theorem State.present_calls (s : State) (q : Request) (rest : List Request) : (s.present q rest).calls = s.calls := rfl
@[simp] theorem State.present_draws (s : State) (q : Request) (rest : List Request) : (s.present q rest).draws = s.draws := rfl
@[simp] theorem State.present_lvl (s : State) (q : Request) (rest : List Request) : (s.present q rest).lvl = s.cfg.levelOf q.lvl := rfl
@[simp] theorem State.present_cell (s : State) (q : Request) (rest : List Request) : (s.present q rest).cell = s.cell := rfl
@[simp] theorem State.present_lineNumber (s : State) (q : Request) (rest : List Request) : (s.present q rest).lineNumber = s.lineNumber := rfl
@[simp] theorem State.present_script (s : State) (q : Request) (rest : List Request) : (s.present q rest).script = rest := rfl
@[simp] theorem State.present_unitPort (s : State) (q : Request) (rest : List Request) : (s.present q rest).unitPort = s.unitPort := rfl
@[simp] theorem State.present_out (s : State) (q : Request) (rest : List Request) : (s.present q rest).out = s.out := rfl

/-! ### presentUnit -/

@[simp] theorem State.presentUnit_cfg (s : State) (u : UnitCommand) : (s.presentUnit u).cfg = s.cfg := rfl
@[simp] theorem State.presentUnit_fail (s : State) (u : UnitCommand) : (s.presentUnit u).fail = s.fail := rfl
@[simp] theorem State.presentUnit_pix (s : State) (u : UnitCommand) : (s.presentUnit u).pix = s.pix := rfl
@[simp] theorem State.presentUnit_cot (s : State) (u : UnitCommand) : (s.presentUnit u).cot = s.cot := rfl
@[simp] theorem State.presentUnit_hdata (s : State) (u : UnitCommand) : (s.presentUnit u).hdata = s.hdata := rfl
@[simp] theorem State.presentUnit_hclk (s : State) (u : UnitCommand) : (s.presentUnit u).hclk = s.hclk := rfl
@[simp] theorem State.presentUnit_life (s : State) (u : UnitCommand) : (s.presentUnit u).life = s.life := rfl
@[simp] theorem State.presentUnit_seq (s : State) (u : UnitCommand) : (s.presentUnit u).seq = s.seq := rfl
@[simp] theorem State.presentUnit_txBusy (s : State) (u : UnitCommand) : (s.presentUnit u).txBusy = s.txBusy := rfl
@[simp] theorem State.presentUnit_chipOpen (s : State) (u : UnitCommand) : (s.presentUnit u).chipOpen = s.chipOpen := rfl
@[simp] theorem State.presentUnit_claimed (s : State) (u : UnitCommand) : (s.presentUnit u).claimed = s.claimed := rfl
@[simp] theorem State.presentUnit_line (s : State) (u : UnitCommand) : (s.presentUnit u).line = s.line := rfl
@[simp] theorem State.presentUnit_trace (s : State) (u : UnitCommand) : (s.presentUnit u).trace = s.trace := rfl
@[simp] theorem State.presentUnit_hist (s : State) (u : UnitCommand) : (s.presentUnit u).hist = s.hist := rfl
@[simp] theorem State.presentUnit_calls (s : State) (u : UnitCommand) : (s.presentUnit u).calls = s.calls := rfl
@[simp] theorem State.presentUnit_draws (s : State) (u : UnitCommand) : (s.presentUnit u).draws = s.draws := rfl
@[simp] theorem State.presentUnit_lvl (s : State) (u : UnitCommand) : (s.presentUnit u).lvl = s.cfg.levelOf u.lvl := rfl
@[simp] theorem State.presentUnit_cell (s : State) (u : UnitCommand) : (s.presentUnit u).cell = u.cell := rfl
@[simp] theorem State.presentUnit_lineNumber (s : State) (u : UnitCommand) : (s.presentUnit u).lineNumber = u.lineNumber := rfl
@[simp] theorem State.presentUnit_script (s : State) (u : UnitCommand) : (s.presentUnit u).script = s.script := rfl
@[simp] theorem State.presentUnit_unitPort (s : State) (u : UnitCommand) : (s.presentUnit u).unitPort = none := rfl
@[simp] theorem State.presentUnit_out (s : State) (u : UnitCommand) : (s.presentUnit u).out = s.out := rfl

end Sys2Proof.Machine
end

