-- ==== Sys2Proof/Laws/Ops.lean ====
section
/-! SUPPORT. What each shared operation does, said once: the acceptance checks, the line store, GPIOSIM's
primitives, the line writes, the sequencer's step and the performing of writes. -/

namespace Sys2Proof.Machine

/-! ## The acceptance checks -/

theorem State.whenIdle_of_idle {s : State} {k : Host.Outcome State Fault Refusal} (h : s.txBusy = false) :
    s.whenIdle k = k := by simp [State.whenIdle, h]

theorem State.whenIdle_of_busy {s : State} {k : Host.Outcome State Fault Refusal} (h : s.txBusy = true) :
    s.whenIdle k = .refused .busy := by simp [State.whenIdle, h]

theorem State.whenLive_of_usable {s : State} {k : Host.Outcome State Fault Refusal} (h : s.Usable) :
    s.whenLive k = k := by simp [State.whenLive, State.whenIdle, h.idle, h.live]

theorem State.whenPixels_of_usable {s : State} {k : Host.Outcome State Fault Refusal} (h : s.Usable) :
    s.whenPixels k = k := by simp [State.whenPixels, State.whenIdle, h.idle, h.live]

theorem State.whenVoid_of_void {s : State} {k : Host.Outcome State Fault Refusal} (h : s.txBusy = false)
    (hv : s.life = .void) : s.whenVoid k = k := by simp [State.whenVoid, State.whenIdle, h, hv]

/-- A check that lets a next state through was met, and the rest gave that state. -/
theorem State.whenIdle_next {s t : State} {k : Host.Outcome State Fault Refusal} (h : s.whenIdle k = .next t) :
    s.txBusy = false ∧ k = .next t := by
  cases hb : s.txBusy <;> simp_all [State.whenIdle]

theorem State.whenVoid_next {s t : State} {k : Host.Outcome State Fault Refusal} (h : s.whenVoid k = .next t) :
    s.txBusy = false ∧ s.life = .void ∧ k = .next t := by
  obtain ⟨hb, hk⟩ := State.whenIdle_next h
  by_cases hl : s.life = .void <;> simp_all

theorem State.whenLive_next {s t : State} {k : Host.Outcome State Fault Refusal} (h : s.whenLive k = .next t) :
    s.Usable ∧ k = .next t := by
  obtain ⟨hb, hk⟩ := State.whenIdle_next h
  by_cases hl : s.life = .live
  · exact ⟨⟨hb, hl⟩, by simpa [hl] using hk⟩
  · simp [hl] at hk

theorem State.whenPixels_next {s t : State} {k : Host.Outcome State Fault Refusal}
    (h : s.whenPixels k = .next t) : s.Usable ∧ k = .next t := by
  obtain ⟨hb, hk⟩ := State.whenIdle_next h
  by_cases hl : s.life = .live
  · exact ⟨⟨hb, hl⟩, by simpa [hl] using hk⟩
  · simp [hl] at hk

/-! ## The line store -/

@[simp] theorem levelAt_setLevel_self (n : Nat) (v : Bit) (line : List (Nat × Bit)) :
    levelAt n (setLevel n v line) = some v := by
  induction line with
  | nil => simp [setLevel, levelAt]
  | cons e rest ih =>
    simp only [setLevel]
    split
    · simp [levelAt]
    · split
      · simp [levelAt]
      · simp [levelAt, *]

theorem levelAt_setLevel_ne {m n : Nat} (v : Bit) (line : List (Nat × Bit)) (hmn : m ≠ n) :
    levelAt m (setLevel n v line) = levelAt m line := by
  induction line with
  | nil => simp [setLevel, levelAt, hmn]
  | cons e rest ih =>
    simp only [setLevel]
    split
    · simp [levelAt, hmn]
    · split
      · next h1 h2 => subst h2; simp [levelAt, hmn]
      · simp only [levelAt]; split <;> simp [ih]

@[simp] theorem levelAt_removeLevel_self (n : Nat) (line : List (Nat × Bit)) :
    levelAt n (removeLevel n line) = none := by
  induction line with
  | nil => rfl
  | cons e rest ih =>
    by_cases h : e.1 = n
    · simpa [removeLevel, h] using ih
    · simpa [removeLevel, h, levelAt, Ne.symm h] using ih

theorem levelAt_removeLevel_ne {m n : Nat} (line : List (Nat × Bit)) (hmn : m ≠ n) :
    levelAt m (removeLevel n line) = levelAt m line := by
  induction line with
  | nil => rfl
  | cons e rest ih =>
    by_cases h : e.1 = n
    · have h2 : ¬ m = e.1 := fun h3 => hmn (h3.trans h)
      have h3 : removeLevel n (e :: rest) = removeLevel n rest := by simp [removeLevel, h]
      rw [h3, ih, levelAt, if_neg h2]
    · by_cases h2 : m = e.1 <;> simp_all [removeLevel, levelAt]

@[simp] theorem mem_insertClaim (m n : Nat) (claimed : List Nat) :
    m ∈ insertClaim n claimed ↔ m = n ∨ m ∈ claimed := by
  induction claimed with
  | nil => simp [insertClaim]
  | cons e rest ih =>
    simp only [insertClaim]
    split
    · simp
    · split
      · next h => subst h; simp
      · simp only [List.mem_cons, ih]; tauto

@[simp] theorem mem_removeClaim (m n : Nat) (claimed : List Nat) :
    m ∈ removeClaim n claimed ↔ m ∈ claimed ∧ m ≠ n := by simp [removeClaim]

/-- A line number with a level is one of the store's keys. -/
theorem levelAt_isSome_iff (n : Nat) (line : List (Nat × Bit)) :
    (levelAt n line).isSome = true ↔ n ∈ line.map (·.1) := by
  induction line with
  | nil => simp [levelAt]
  | cons e rest ih =>
    by_cases h : n = e.1
    · simp [levelAt, h]
    · simp only [levelAt, h, if_false, ih, List.map_cons, List.mem_cons, false_or]

/-! Every primitive keeps the canonical forms. -/

theorem insertClaim_keeps_wf (n : Nat) (claimed : List Nat) (h : claimedWf claimed = true) :
    claimedWf (insertClaim n claimed) = true := by
  simp only [claimedWf, decide_eq_true_eq] at *
  induction claimed with
  | nil => simp [insertClaim]
  | cons e rest ih =>
    rw [List.pairwise_cons] at h
    simp only [insertClaim]
    split
    · next hlt =>
      refine List.pairwise_cons.2 ⟨fun a ha => ?_, List.pairwise_cons.2 h⟩
      rcases List.mem_cons.1 ha with rfl | ha
      · exact hlt
      · exact hlt.trans (h.1 a ha)
    · split
      · exact List.pairwise_cons.2 h
      · refine List.pairwise_cons.2 ⟨fun a ha => ?_, ih h.2⟩
        rcases (mem_insertClaim a n rest).1 ha with rfl | ha
        · omega
        · exact h.1 a ha

theorem removeClaim_keeps_wf (n : Nat) (claimed : List Nat) (h : claimedWf claimed = true) :
    claimedWf (removeClaim n claimed) = true := by
  simp only [claimedWf, decide_eq_true_eq] at *
  exact h.sublist List.filter_sublist

/-- The keys after a level is set: the line is one of them. -/
theorem setLevel_keys (n : Nat) (v : Bit) (line : List (Nat × Bit)) :
    (setLevel n v line).map (·.1) = insertClaim n (line.map (·.1)) := by
  induction line with
  | nil => rfl
  | cons e rest ih =>
    simp only [setLevel, List.map_cons, insertClaim]
    split
    · simp
    · split
      · next h => simp [h]
      · simp [ih]

theorem setLevel_keeps_wf (n : Nat) (v : Bit) (line : List (Nat × Bit)) (h : LineStore.wf line = true) :
    LineStore.wf (setLevel n v line) = true := by
  simp only [LineStore.wf, setLevel_keys] at *
  exact insertClaim_keeps_wf n _ h

theorem removeLevel_keeps_wf (n : Nat) (line : List (Nat × Bit)) (h : LineStore.wf line = true) :
    LineStore.wf (removeLevel n line) = true := by
  rw [LineStore.wf, claimedWf, decide_eq_true_eq] at *
  exact h.sublist (List.filter_sublist.map _)

theorem reset_lineStore_wf : LineStore.wf State.reset.line = true ∧ claimedWf State.reset.claimed = true := by decide

/-! ## OPEN -/

@[simp] theorem State.openChip_ok (s : State) (path : String) :
    (s.openChip path).2 = !s.fail.fails s.calls := by
  simp only [State.openChip]; cases s.fail.fails s.calls <;> rfl

/-- Everything OPEN can do (44_gpio_sim.md R157). -/
theorem State.openChip_state (s : State) (path : String) :
    (s.openChip path).1 =
      { s with calls := s.calls + 1, chipOpen := if s.fail.fails s.calls then s.chipOpen else true } := by
  simp only [State.openChip]; cases s.fail.fails s.calls <;> rfl

/-! ## REQLINE -/

/-- `startHist` writes HIST and nothing else. -/
theorem State.startHist_eq (s : State) : ∃ hs, s.startHist = { s with hist := hs } ∧ (hs = s.hist ∨ s.hist = [] ∧ hs = [s.levels]) := by
  unfold State.startHist
  split
  · exact ⟨_, rfl, .inr ⟨(by simp_all), rfl⟩⟩
  · exact ⟨_, rfl, .inl rfl⟩

/-- When REQLINE succeeds (44_gpio_sim.md R158 to R160). -/
theorem State.requestLine_ok_iff (s : State) (n : Nat) (v : Bit) (label : String) :
    (s.requestLine n v label).2 = true ↔ s.Requestable n ∧ s.fail.fails s.calls = false := by
  simp only [State.requestLine]
  constructor
  · intro h
    split at h
    · cases h
    · split at h
      · cases h
      · split at h
        · cases h
        · split at h
          · cases h
          · next h1 h2 h3 h4 =>
            exact ⟨⟨by simpa using h1, by omega, by simpa using h3⟩, by simpa using h4⟩
  · rintro ⟨⟨h1, h2, h3⟩, h4⟩
    simp [h1, h3, h4, Nat.not_le.2 h2]

/-- A failed REQLINE changes no state but CALLS (44_gpio_sim.md R160). -/
theorem State.requestLine_fail {s : State} {n : Nat} {v : Bit} {label : String}
    (h : (s.requestLine n v label).2 = false) :
    (s.requestLine n v label).1 = { s with calls := s.calls + 1 } := by
  simp only [State.requestLine] at *
  split_ifs at h ⊢ <;> rfl

/-- A successful REQLINE claims the line and drives its initial level (44_gpio_sim.md R158). -/
theorem State.requestLine_success {s : State} {n : Nat} {v : Bit} {label : String}
    (h : (s.requestLine n v label).2 = true) :
    (s.requestLine n v label).1 =
      ({ s with
          calls := s.calls + 1
          claimed := insertClaim n s.claimed
          line := setLevel n v s.line } : State).startHist := by
  obtain ⟨⟨h1, h2, h3⟩, h4⟩ := (State.requestLine_ok_iff s n v label).1 h
  simp [State.requestLine, h1, h3, h4, Nat.not_le.2 h2]

/-! ## SETVAL: one lemma per field (44_gpio_sim.md R161 to R163) -/

section SetValue
variable (s : State) (n : Nat) (l : Line) (v : Bit)

@[simp] theorem State.setValue_ok : (s.setValue n l v).2 = !s.fail.fails s.calls := rfl
@[simp] theorem State.setValue_cfg : (s.setValue n l v).1.cfg = s.cfg := rfl
@[simp] theorem State.setValue_fail : (s.setValue n l v).1.fail = s.fail := rfl
@[simp] theorem State.setValue_pix : (s.setValue n l v).1.pix = s.pix := rfl
@[simp] theorem State.setValue_cot : (s.setValue n l v).1.cot = s.cot := rfl
@[simp] theorem State.setValue_hdata : (s.setValue n l v).1.hdata = s.hdata := rfl
@[simp] theorem State.setValue_hclk : (s.setValue n l v).1.hclk = s.hclk := rfl
@[simp] theorem State.setValue_life : (s.setValue n l v).1.life = s.life := rfl
@[simp] theorem State.setValue_seq : (s.setValue n l v).1.seq = s.seq := rfl
@[simp] theorem State.setValue_txBusy : (s.setValue n l v).1.txBusy = s.txBusy := rfl
@[simp] theorem State.setValue_chipOpen : (s.setValue n l v).1.chipOpen = s.chipOpen := rfl
@[simp] theorem State.setValue_claimed : (s.setValue n l v).1.claimed = s.claimed := rfl
@[simp] theorem State.setValue_calls : (s.setValue n l v).1.calls = s.calls + 1 := rfl
@[simp] theorem State.setValue_draws : (s.setValue n l v).1.draws = s.draws := rfl
@[simp] theorem State.setValue_lvl : (s.setValue n l v).1.lvl = s.lvl := rfl
@[simp] theorem State.setValue_cell : (s.setValue n l v).1.cell = s.cell := rfl
@[simp] theorem State.setValue_lineNumber : (s.setValue n l v).1.lineNumber = s.lineNumber := rfl
@[simp] theorem State.setValue_script : (s.setValue n l v).1.script = s.script := rfl
@[simp] theorem State.setValue_out : (s.setValue n l v).1.out = s.out := rfl
@[simp] theorem State.setValue_trace :
    (s.setValue n l v).1.trace = s.trace ++ [⟨l, v, !s.fail.fails s.calls⟩] := rfl
@[simp] theorem State.setValue_line :
    (s.setValue n l v).1.line =
      setLevel n (if s.fail.fails s.calls then Config.failedWriteLevel s.calls else v) s.line := rfl
@[simp] theorem State.setValue_hist :
    (s.setValue n l v).1.hist =
      if s.hist = [] then [] else s.hist ++ [(s.setValue n l v).1.levels] := rfl

@[simp] theorem State.setValue_unitPort : (s.setValue n l v).1.unitPort = s.unitPort := rfl

/-- A write to a line with a level leaves the same lines with one. -/
theorem State.setValue_levelAt_isSome (m : Nat) (hn : (levelAt n s.line).isSome = true) :
    (levelAt m (s.setValue n l v).1.line).isSome = (levelAt m s.line).isSome := by
  by_cases h : m = n
  · subst h; simpa using hn.symm
  · simp [levelAt_setLevel_ne _ _ h]

end SetValue

/-! ## LineWrite: SETVAL of the line DRV's handle names (00_scope.md 5.4) -/

/-- DRV's line numbers depend on its handles and on the parameters. -/
theorem State.lineNo_congr {s t : State} (hd : t.hdata = s.hdata) (hc : t.hclk = s.hclk) (hp : t.cfg = s.cfg)
    (l : Line) : t.lineNo l = s.lineNo l := by cases l <;> simp [State.lineNo, hd, hc, hp]

/-- In LIVE DRV's line numbers are the configured ones (10_state.md R19). -/
theorem State.Wired.lineNo_eq {s : State} (h : s.Wired) (l : Line) : s.lineNo l = s.cfg.lineNo l := by
  cases l <;> simp [State.lineNo, Config.lineNo, h.hdata, h.hclk]

/-- A line write leaves DRV's line numbers as they are. -/
@[simp] theorem State.lineWrite_lineNo (s : State) (l m : Line) (v : Bit) :
    (s.lineWrite l v).1.lineNo m = s.lineNo m := State.lineNo_congr rfl rfl rfl m

/-- Everything a line write leaves unchanged. -/
theorem State.lineWrite_frame (s : State) (l : Line) (v : Bit) : WriteFrame s (s.lineWrite l v).1 where
  env := ⟨rfl, rfl, rfl, rfl, rfl, rfl, rfl⟩
  driver := ⟨rfl, rfl, rfl, rfl⟩
  pix := rfl
  draws := rfl
  chipOpen := rfl
  claimed := rfl
  lines n hd hc := by
    simp only [State.lineWrite, State.setValue_line]
    exact levelAt_setLevel_ne _ _ (by cases l <;> assumption)

theorem WriteFrame.refl (s : State) : WriteFrame s s :=
  ⟨⟨rfl, rfl, rfl, rfl, rfl, rfl, rfl⟩, ⟨rfl, rfl, rfl, rfl⟩, rfl, rfl, rfl, rfl, fun _ _ _ => rfl⟩

theorem WriteFrame.lineNo {s t : State} (h : WriteFrame s t) (l : Line) : t.lineNo l = s.lineNo l :=
  State.lineNo_congr h.driver.hdata h.driver.hclk h.env.cfg l

/-- Frames compose. -/
theorem WriteFrame.trans {s t u : State} (h : WriteFrame s t) (k : WriteFrame t u) : WriteFrame s u where
  env := ⟨k.env.cfg.trans h.env.cfg, k.env.fail.trans h.env.fail, k.env.lvl.trans h.env.lvl,
    k.env.cell.trans h.env.cell, k.env.lineNumber.trans h.env.lineNumber, k.env.script.trans h.env.script,
    k.env.unitPort.trans h.env.unitPort⟩
  driver := ⟨k.driver.cot.trans h.driver.cot, k.driver.hdata.trans h.driver.hdata,
    k.driver.hclk.trans h.driver.hclk, k.driver.life.trans h.driver.life⟩
  pix := k.pix.trans h.pix
  draws := k.draws.trans h.draws
  chipOpen := k.chipOpen.trans h.chipOpen
  claimed := k.claimed.trans h.claimed
  lines n hd hc := (k.lines n (h.lineNo .data ▸ hd) (h.lineNo .clk ▸ hc)).trans (h.lines n hd hc)

/-- Writing SEQ, TXBUSY and the response changes nothing the frame names. -/
theorem WriteFrame.withSequencer {s t : State} (h : WriteFrame s t) (n : Nat) (b : Bool) (o : Output) :
    WriteFrame s { t with seq := n, txBusy := b, out := o } :=
  ⟨⟨h.env.cfg, h.env.fail, h.env.lvl, h.env.cell, h.env.lineNumber, h.env.script, h.env.unitPort⟩,
    ⟨h.driver.cot, h.driver.hdata, h.driver.hclk, h.driver.life⟩, h.pix, h.draws, h.chipOpen, h.claimed, h.lines⟩

/-! ## The sequencer's step (42_transmit.md R124) -/

/-- A step whose write succeeds and is not the last. -/
theorem State.txStep_advance {s : State} (ok : s.fail.fails s.calls = false) (hn : s.seq + 1 ≠ 906) :
    s.txStep = { (s.lineWrite (ev s.pix s.seq).1 (ev s.pix s.seq).2).1 with seq := s.seq + 1 } := by
  simp [State.txStep, State.lineWrite, ok, hn]

/-- A step whose write succeeds and is the last. -/
theorem State.txStep_last {s : State} (ok : s.fail.fails s.calls = false) (hn : s.seq + 1 = 906) :
    s.txStep = (s.lineWrite (ev s.pix s.seq).1 (ev s.pix s.seq).2).1.finishOk .none := by
  simp [State.txStep, State.lineWrite, ok, hn]

/-- A step whose write fails. -/
theorem State.txStep_abort {s : State} (bad : s.fail.fails s.calls = true) :
    s.txStep = (s.lineWrite (ev s.pix s.seq).1 (ev s.pix s.seq).2).1.raise (.transmitError (stage s.seq)) := by
  simp [State.txStep, State.lineWrite, bad]

/-- A step is the line write ev(SEQ), then SEQ, TXBUSY and the response: everything it can do. -/
theorem State.txStep_cases (s : State) : ∃ n b o,
    s.txStep = { (s.lineWrite (ev s.pix s.seq).1 (ev s.pix s.seq).2).1 with seq := n, txBusy := b, out := o } ∧
    (s.fail.fails s.calls = false ∧ s.seq + 1 ≠ 906 ∧ n = s.seq + 1 ∧ b = s.txBusy ∧ o = s.out ∨
     s.fail.fails s.calls = false ∧ s.seq + 1 = 906 ∧ n = 0 ∧ b = false ∧ o = .response (.ok .none) ∨
     s.fail.fails s.calls = true ∧ n = 0 ∧ b = false ∧ o = .response (.transmitError (stage s.seq))) := by
  cases hf : s.fail.fails s.calls
  · by_cases hn : s.seq + 1 = 906
    · exact ⟨_, _, _, State.txStep_last hf hn, by simp [hn]⟩
    · exact ⟨_, _, _, State.txStep_advance hf hn, by simp [hn, State.lineWrite]⟩
  · exact ⟨_, _, _, State.txStep_abort hf, by simp⟩

theorem State.txStep_frame (s : State) : WriteFrame s s.txStep := by
  obtain ⟨n, b, o, h, -⟩ := State.txStep_cases s
  rw [h]
  exact (State.lineWrite_frame s _ _).withSequencer n b o

@[simp] theorem State.txStep_calls (s : State) : s.txStep.calls = s.calls + 1 := by
  obtain ⟨n, b, o, h, -⟩ := State.txStep_cases s
  rw [h]; rfl

@[simp] theorem State.txStep_trace (s : State) : s.txStep.trace =
    s.trace ++ [⟨(ev s.pix s.seq).1, (ev s.pix s.seq).2, !s.fail.fails s.calls⟩] := by
  obtain ⟨n, b, o, h, -⟩ := State.txStep_cases s
  rw [h]; rfl

/-- The sequencer at rest stays at rest. -/
theorem State.txRun_idle (k : Nat) {s : State} (hs : s.txBusy = false) : s.txRun k = s := by
  cases k <;> simp [State.txRun, hs]

theorem State.txRun_busy (k : Nat) {s : State} (hs : s.txBusy = true) :
    s.txRun (k + 1) = s.txStep.txRun k := by simp [State.txRun, hs]

theorem State.txRun_frame (k : Nat) (s : State) : WriteFrame s (s.txRun k) := by
  induction k generalizing s with
  | zero => exact .refl s
  | succ k ih =>
    cases hs : s.txBusy
    · rw [State.txRun_idle _ hs]; exact .refl s
    · rw [State.txRun_busy _ hs]; exact (State.txStep_frame s).trans (ih _)

/-! ## Performing writes (42_transmit.md R126) -/

theorem State.runWrites_ok {s : State} (w : Write) (rest : List Write) (ok : s.fail.fails s.calls = false) :
    s.runWrites (w :: rest) = (s.lineWrite w.line w.value).1.runWrites rest := by
  simp [State.runWrites, State.lineWrite, ok]

theorem State.runWrites_abort {s : State} (w : Write) (rest : List Write) (bad : s.fail.fails s.calls = true) :
    s.runWrites (w :: rest) = ((s.lineWrite w.line w.value).1, some w.stage) := by
  simp [State.runWrites, State.lineWrite, bad]

/-! ## Brightness -/

/-- `floor31` is the floor of the exact product, for a non-negative level (40_pixel_ops.md R86). -/
theorem floor31_eq_floor (q : Rat) (hq : 0 ≤ q) : (floor31 q : ℤ) = ⌊31 * q⌋ := by
  have h1 : (31 * q : ℚ) = ((31 * q.num : ℤ) : ℚ) / ((q.den : ℕ) : ℚ) := by
    conv_lhs => rw [← Rat.num_div_den q]
    push_cast
    ring
  have h2 : 0 ≤ 31 * q.num / (q.den : ℤ) :=
    Int.ediv_nonneg (by have := Rat.num_nonneg.2 hq; omega) (by omega)
  rw [h1, floor31, Int.toNat_of_nonneg h2]
  exact (Rat.floor_intCast_div_natCast _ _).symm

/-- CLRALL's level: `quant5(0.2) = 6` (40_pixel_ops.md R86). -/
@[simp] theorem quant5_clearLevel (d : Level5) : quant5 d Config.clearLevel = 6 := by decide +revert

end Sys2Proof.Machine
end

