-- ==== Sys2Proof/Laws/PerInstr.lean ====
section
/-! SUPPORT. Statements made of every instruction, one lemma per constructor. -/

namespace Sys2Proof.Laws.EncodedInRow

/-- The word is of D-format and the row selects it. -/
def inD (row : Row 40) : Word → Bool
  | .d w => row.selects w
  | .p _ => false
  | .g _ => false
  | .w32 _ => false
  | .w36 _ => false

/-- The word is of P-format and the row selects it. -/
def inP (row : Row 28) : Word → Bool
  | .d _ => false
  | .p w => row.selects w
  | .g _ => false
  | .w32 _ => false
  | .w36 _ => false

/-- The word is of G-format and the row selects it. -/
def inG (row : Row 4) : Word → Bool
  | .d _ => false
  | .p _ => false
  | .g w => row.selects w
  | .w32 _ => false
  | .w36 _ => false

/-- The word is a 32-bit frame and the row selects it. -/
def inW32 (row : Row 32) : Word → Bool
  | .d _ => false
  | .p _ => false
  | .g _ => false
  | .w32 w => row.selects w
  | .w36 _ => false

/-- The word is a 36-bit frame and the row selects it. -/
def inW36 (row : Row 36) : Word → Bool
  | .d _ => false
  | .p _ => false
  | .g _ => false
  | .w32 _ => false
  | .w36 w => row.selects w

/-- Does the row of the instruction's own mnemonic select the word? (30_encoding.md R61 to R63, R69 to R71) -/
def ownRow : Instr → Word → Bool
  | .construct _ => inD rowConstruct
  | .transmit => inD rowTransmit
  | .getpix _ => inD rowGetpix
  | .setpix _ _ _ _ => inD rowSetpix
  | .setall _ _ _ => inD rowSetall
  | .clrall => inD rowClrall
  | .teardown => inD rowTeardown
  | .getrgb => inP rowGetrgb
  | .getrgbl => inP rowGetrgbl
  | .setrgb _ _ _ => inP rowSetrgb
  | .setbrt => inP rowSetbrt
  | .setrgbl _ _ _ => inP rowSetrgbl
  | .clr => inP rowClr
  | .serbytes => inP rowSerbytes
  | .openchip => inG rowOpen
  | .reqline _ _ => inG rowReqline
  | .setval _ _ => inG rowSetval
  | .release _ => inG rowRelease
  | .sof => inW32 rowSof
  | .ledframe _ _ _ _ => inW32 rowLedframe
  | .eof => inW36 rowEof

/-- The word an instruction is encoded as is selected by the row of its own mnemonic. -/
def Statement (i : Instr) : Prop := ownRow i (encode i) = true

theorem construct (cot : Bit) : Statement (.construct cot) := by cases cot <;> rfl

theorem transmit : Statement .transmit := rfl

theorem getpix (index : Nat) : Statement (.getpix index) := by
  simp only [Statement, ownRow, encode, wordD, inD, Row.selects, rowGetpix, beq_iff_eq]
  ext i hi
  simp only [BitVec.getElem_and, BitVec.getElem_append]
  interval_cases i <;> simp

theorem setpix (index : Nat) (r g b : Byte) : Statement (.setpix index r g b) := by
  simp only [Statement, ownRow, encode, wordD, inD, Row.selects, rowSetpix, beq_iff_eq]
  ext i hi
  simp only [BitVec.getElem_and, BitVec.getElem_append]
  interval_cases i <;> simp

theorem setall (r g b : Byte) : Statement (.setall r g b) := by
  simp only [Statement, ownRow, encode, wordD, inD, Row.selects, rowSetall, beq_iff_eq]
  ext i hi
  simp only [BitVec.getElem_and, BitVec.getElem_append]
  interval_cases i <;> simp

theorem clrall : Statement .clrall := rfl

theorem teardown : Statement .teardown := rfl

theorem getrgb : Statement .getrgb := rfl

theorem getrgbl : Statement .getrgbl := rfl

theorem setrgb (r g b : Byte) : Statement (.setrgb r g b) := by
  simp only [Statement, ownRow, encode, wordP, inP, Row.selects, rowSetrgb, beq_iff_eq]
  ext i hi
  simp only [BitVec.getElem_and, BitVec.getElem_append]
  interval_cases i <;> simp

theorem setbrt : Statement .setbrt := rfl

theorem setrgbl (r g b : Byte) : Statement (.setrgbl r g b) := by
  simp only [Statement, ownRow, encode, wordP, inP, Row.selects, rowSetrgbl, beq_iff_eq]
  ext i hi
  simp only [BitVec.getElem_and, BitVec.getElem_append]
  interval_cases i <;> simp

theorem clr : Statement .clr := rfl

theorem serbytes : Statement .serbytes := rfl

theorem openchip : Statement .openchip := rfl

theorem reqline (sel : Line) (val : Bit) : Statement (.reqline sel val) := by
  cases sel <;> cases val <;> rfl

theorem setval (sel : Line) (val : Bit) : Statement (.setval sel val) := by
  cases sel <;> cases val <;> rfl

theorem release (sel : Line) : Statement (.release sel) := by cases sel <;> rfl

theorem sof : Statement .sof := rfl

theorem ledframe (level5 : Level5) (blue green red : Byte) :
    Statement (.ledframe level5 blue green red) := by
  simp only [Statement, ownRow, encode, ledFrameWord, inW32, Row.selects, rowLedframe, beq_iff_eq]
  ext i hi
  simp only [BitVec.getElem_and, BitVec.getElem_append]
  interval_cases i <;> simp

theorem eof : Statement .eof := rfl

end Sys2Proof.Laws.EncodedInRow
end

