-- ==== Sys2Proof/Laws/Step.lean ====
section
/-! SUPPORT. What a step can do, said once, and which formats the words on the two kinds of port have. -/

namespace Sys2Proof.Machine

theorem State.whenPixelsExist_next {s t : State} {k : Host.Outcome State Fault Refusal}
    (h : s.whenPixelsExist k = .next t) : s.life = .live ∧ k = .next t := by
  by_cases hl : s.life = .live <;> simp_all [State.whenPixelsExist]

/-- A wire frame that is executed is the transmission's next writes (log 9). -/
theorem State.sendFrame_next {s t : State} {n : Nat} {due : Bool} (h : s.sendFrame n due = .next t) :
    s.txBusy = true ∧ due = true ∧ t = s.txRun n := by
  unfold State.sendFrame at h
  split at h
  · next hc =>
    cases h
    exact ⟨(Bool.and_eq_true_iff.1 hc).1, (Bool.and_eq_true_iff.1 hc).2, rfl⟩
  · cases h

/-- A D-format word decodes to a D-format instruction (30_encoding.md R69). -/
theorem decodeD_format {w : BitVec 40} {i : Instr} (h : decode (.d w) = .ok i) : i.format = .d := by
  simp only [decode, decodeD] at h
  split_ifs at h <;> cases h <;> rfl

/-- A word of DRV's own decodes to no D-format instruction (30_encoding.md R70, R71). -/
theorem unitWord_format {w : UnitWord} {i : Instr} (h : decode w.toWord = .ok i) : i.format ≠ .d := by
  cases w <;> simp only [decode, UnitWord.toWord, decodeP, decodeG, decodeW32, decodeW36] at h <;>
    split_ifs at h <;> cases h <;> simp [Instr.format]

/-- The step of a running transmission is the sequencer's. -/
theorem step_of_busy {s : State} (hu : s.unitPort = none) (hb : s.txBusy = true) : step s = .next s.txStep := by
  simp only [step, stepBody, hu, hb, if_true, stepTransmission]

/-- Everything a step that answers a next state can be: a word of DRV's own, one write of a running
transmission, waiting, or a command of the host, executed or, for a TRANSMIT in single steps, accepted. -/
theorem step_next_cases {s t : State} (h : step s = .next t) :
    (∃ u i, s.unitPort = some u ∧ decode u.word.toWord = .ok i ∧ exec i (s.presentUnit u) = .next t) ∨
    s.unitPort = none ∧
      (s.txBusy = true ∧ t = s.txStep ∨
       s.txBusy = false ∧ s.script = [] ∧ t = s ∨
       s.txBusy = false ∧ ∃ q rest i, s.script = q :: rest ∧ decode (.d q.word) = .ok i ∧
        (i = .transmit ∧ q.stepwise = true ∧ s.life = .live ∧ t = (s.present q rest).txAccept ∨
         exec i (s.present q rest) = .next t)) := by
  simp only [step, stepBody] at h
  split at h
  · next u hu =>
    simp only [takeUnitCommand] at h
    split at h
    · cases h
    · next i hd => exact .inl ⟨u, i, hu, hd, h⟩
  · next hu =>
    refine .inr ⟨hu, ?_⟩
    split at h
    · next hb => cases h; exact .inl ⟨hb, rfl⟩
    · next hb =>
      have hb : s.txBusy = false := by simpa using hb
      split at h
      · next hs => cases h; exact .inr (.inl ⟨hb, hs, rfl⟩)
      · next q rest hs =>
        simp only [takeRequest] at h
        split at h
        · cases h
        · next i hd =>
          refine .inr (.inr ⟨hb, q, rest, i, hs, hd, ?_⟩)
          simp only [runRequest] at h
          split at h
          · next hc =>
            obtain ⟨hu, h⟩ := State.whenLive_next h
            cases h
            exact .inl ⟨hc.2, hc.1, hu.live, rfl⟩
          · exact .inr h

end Sys2Proof.Machine
end

