-- ==== Sys2Proof/Tests/Slice0.lean ====
section
/-! SUPPORT. Own tests. Expected values are those of 95_test_vectors.md (V1 to V12) or worked by hand from
the rule named; then one witness for the hypotheses of every obligation that has some. -/

namespace Sys2Proof.Tests

open Sys2Proof.Machine

/-! ## Helpers -/

/-- The state an outcome goes on with. -/
def after : Host.Outcome State Fault Refusal → Option State
  | .next s => some s
  | .fault _ => none
  | .refused _ => none

/-- The refusal an outcome ends with. -/
def refusal : Host.Outcome State Fault Refusal → Option Refusal
  | .next _ => none
  | .fault _ => none
  | .refused r => some r

/-- The response port after an instruction. -/
def outOf (i : Instr) (s : State) : Option Output := (after (exec i s)).map (·.out)

/-- Pixel `p` after an instruction. -/
def pixelAfter (i : Instr) (p : Fin 8) (s : State) : Option Pixel := (after (exec i s)).map (·.pix[p])

/-- The response word on the port. -/
def wordOut : Output → Option (BitVec 16)
  | .nothing => none
  | .response r => some r.word
  | .call _ => none

/-- The response word of an instruction. -/
def wordAfter (i : Instr) (s : State) : Option (BitVec 16) := (outOf i s).bind wordOut

/-- V3's start: the addressed pixel is (12, 34, 56, E6). -/
def v3 (lvl : Level) : State :=
  { State.reset with pix := State.reset.pix.set 2 ⟨0x12, 0x34, 0x56, 0xE6⟩, cell := 2, lvl := lvl }

/-- V4's start, a fresh driver, with a level on LVL. -/
def fresh (lvl : Level) : State := { State.reset with lvl := lvl }

/-- A fresh driver whose call number `c` fails (3 is the first line write). -/
def failing (c : Nat) : State := { State.reset with fail := ⟨.ok, [c]⟩ }

/-- The state before any CONSTRUCT, for the illustration parameters. -/
def void (listed : List Nat) : State := State.powerOn Config.illustration ⟨.ok, listed⟩

/-- A fresh driver in the middle of a transmission. -/
def running (seq : Nat) (listed : List Nat) : State :=
  { State.reset with seq := seq, txBusy := true, out := .nothing, fail := ⟨.ok, listed⟩ }

/-- A fresh driver whose clock line stands high, as an abort may leave it (42_transmit.md R135). -/
def clockHigh : State :=
  { State.reset with line := [(23, false), (24, true)], hist := [(false, true)] }

/-- A Driver that has been torn down (COT = 0). -/
def dead : State :=
  { State.reset with
    cot := false, life := .dead, hdata := none, hclk := none, claimed := [], line := [] }

/-- A request of the host for a word, the level 0 on LVL. -/
def request (w : BitVec 40) : Request := ⟨w, .level (.fin 0), false⟩

/-- A word DRV has put on a unit's port, the level 0 on LVL, pixel 0 and line number 0 beside it. -/
def toUnit (w : UnitWord) : UnitCommand := ⟨w, .level (.fin 0), 0, 0⟩

/-- A request for a TRANSMIT write by write. -/
def watched : Request := ⟨0x2000000000, .level (.fin 0), true⟩

/-! ## Well-formedness refuses what no word can carry (30_encoding.md R73) -/

theorem test_wellFormed_refuses_getpix_256 : (Instr.getpix 256).wellFormed = false := by decide

theorem test_wellFormed_refuses_setpix_256 : (Instr.setpix 256 1 2 3).wellFormed = false := by decide

theorem test_wellFormed_takes_index_255 :
    (Instr.getpix 255).wellFormed = true ∧ (Instr.setpix 255 1 2 3).wellFormed = true := by decide

/-! ## Decoding: words written out from the tables of 30_encoding.md -/

/-- D-format, op 39:36, zero 35:32, idx 31:24, r 23:16, g 15:8, b 7:0 (R68, R69; V4). -/
theorem test_decode_d_words :
    decode (.d 0b0001_0000_00000000_00000000_00000000_00000001) = .ok (.construct true) ∧
    decode (.d 0b0001_0000_00000000_00000000_00000000_00000000) = .ok (.construct false) ∧
    decode (.d 0b0010_0000_00000000_00000000_00000000_00000000) = .ok .transmit ∧
    decode (.d 0b0011_0000_00000111_00000000_00000000_00000000) = .ok (.getpix 7) ∧
    decode (.d 0b0100_0000_00000011_00010010_00110100_01010110) = .ok (.setpix 3 0x12 0x34 0x56) ∧
    decode (.d 0b0101_0000_00000000_00001010_00010100_00011110) = .ok (.setall 0x0A 0x14 0x1E) ∧
    decode (.d 0b0110_0000_00000000_00000000_00000000_00000000) = .ok .clrall ∧
    decode (.d 0b0111_0000_00000000_00000000_00000000_00000000) = .ok .teardown := by decide

/-- P-format, op 27:24, r 23:16, g 15:8, b 7:0 (R70; V3). -/
theorem test_decode_p_words :
    decode (.p 0b0001_00000000_00000000_00000000) = .ok .getrgb ∧
    decode (.p 0b0010_00000000_00000000_00000000) = .ok .getrgbl ∧
    decode (.p 0b0011_11111111_00000000_10000000) = .ok (.setrgb 0xFF 0x00 0x80) ∧
    decode (.p 0b0100_00000000_00000000_00000000) = .ok .setbrt ∧
    decode (.p 0b0101_00010010_00110100_01010110) = .ok (.setrgbl 0x12 0x34 0x56) ∧
    decode (.p 0b0110_00000000_00000000_00000000) = .ok .clr ∧
    decode (.p 0b0111_00000000_00000000_00000000) = .ok .serbytes := by decide

/-- G-format, gop 3:2, sel 1, val 0 (R71). -/
theorem test_decode_g_words :
    decode (.g 0b0000) = .ok .openchip ∧
    decode (.g 0b0101) = .ok (.reqline .data true) ∧ decode (.g 0b0110) = .ok (.reqline .clk false) ∧
    decode (.g 0b1001) = .ok (.setval .data true) ∧ decode (.g 0b1010) = .ok (.setval .clk false) ∧
    decode (.g 0b1100) = .ok (.release .data) ∧ decode (.g 0b1110) = .ok (.release .clk) := by decide

/-- The wire frames, `111vvvvvbbbbbbbbggggggggrrrrrrrr` and the zero frames (R61 to R63). -/
theorem test_decode_frames :
    decode (.w32 0b00000000000000000000000000000000) = .ok .sof ∧
    decode (.w32 0b111_00110_01010110_00110100_00010010) = .ok (.ledframe 6 0x56 0x34 0x12) ∧
    decode (.w36 0b000000000000000000000000000000000000) = .ok .eof := by decide

/-- Reserved words (R75; the reserved rows of V3 and V4, the five G-words of R75, a frame of marker 110). -/
theorem test_decode_reserved_words :
    [0x0000000000, 0x8000000000, 0xF000000000, 0x2000000001, 0x3000000001, 0x5001000000, 0x1000000002,
      0x4100000000].all (fun w => decide (decode (.d w) = .error .reservedD)) = true ∧
    [0x0000000, 0x8000000, 0x4000001, 0x1000100].all
      (fun w => decide (decode (.p w) = .error .reservedP)) = true ∧
    [0b0001, 0b0010, 0b0011, 0b1101, 0b1111].all
      (fun w => decide (decode (.g w) = .error .reservedG)) = true ∧
    decode (.w32 0b110_00110_00000000_00000000_00000000) = .error .reservedFrame ∧
    decode (.w36 1) = .error .reservedFrame := by decide

/-- The opcode table's words, each of its own width, give the instruction. -/
theorem test_decodeTableWord :
    decodeTableWord 40 0x4003123456 = some (.setpix 3 0x12 0x34 0x56) ∧
    decodeTableWord 32 0x3FF0080 = some (.setrgb 0xFF 0x00 0x80) ∧
    decodeTableWord 8 0b1011 = some (.setval .clk true) ∧
    decodeTableWord 32 0xE6563412 = some (.ledframe 6 0x56 0x34 0x12) ∧
    decodeTableWord 32 0 = some .sof ∧ decodeTableWord 40 0 = some .eof ∧
    decodeTableWord 36 0 = some .eof ∧ decodeTableWord 28 0x7000000 = some .serbytes := by decide

/-! ## The quantiser and the packing (V1, V2, V6) -/

/-- V2's corners: floor, not rounding, and the clamp. -/
theorem test_quant5_vectors :
    (quant5 9 .negInf, quant5 9 (.fin (-3)), quant5 9 (.fin (mkRat 1 32)), quant5 9 (.fin (mkRat 1 31))) =
      (0, 0, 0, 1) ∧
    (quant5 9 (.fin (mkRat 1 5)), quant5 9 (.fin (mkRat 1 2)), quant5 9 (.fin (mkRat 9 10))) = (6, 15, 27) ∧
    (quant5 9 (.fin (mkRat 99 100)), quant5 9 (.fin 1), quant5 9 (.fin 7), quant5 9 .posInf) =
      (30, 31, 31, 31) := by decide +kernel

/-- V6: (12, 34, 56, E6) is sent as E6563412, and a broken marker is forced. -/
theorem test_frame_vectors :
    bitsToNat (frame (Vector.replicate 8 ⟨0x12, 0x34, 0x56, 0xE6⟩) 5) = 0xE6563412 ∧
    bitsToNat (frame (Vector.replicate 8 ⟨0xFF, 0x00, 0x00, 0xFF⟩) 0) = 0xFF0000FF ∧
    bitsToNat (frame (Vector.replicate 8 ⟨0, 0, 0, 0x06⟩) 7) = 0xE6000000 := by decide

/-- V5: the response words. -/
theorem test_response_words :
    (Response.transmitError (.pixel 5 2)).word = 0x3056 ∧ (Response.transmitError (.pixel 7 3)).word = 0x305F ∧
    (Response.acquireLineError .clk).word = 0x2001 ∧ (Response.indexError 255).word = 0x40FF := by decide

/-! ## P-format (V3) -/

theorem test_getrgb : outOf .getrgb (v3 (.fin 0)) = some (.response (.ok (.rgb 0x12 0x34 0x56))) := by decide

theorem test_getrgbl :
    outOf .getrgbl (v3 (.fin 0)) = some (.response (.ok (.rgbl 0x12 0x34 0x56 (.fin (mkRat 6 31))))) := by
  decide +kernel

theorem test_setrgb_keeps_brightness :
    pixelAfter (.setrgb 0xFF 0x00 0x80) 2 (v3 (.fin 0)) = some ⟨0xFF, 0x00, 0x80, 0xE6⟩ := by decide

theorem test_setbrt_half_is_15 : pixelAfter .setbrt 2 (v3 (.fin (mkRat 1 2))) = some ⟨0x12, 0x34, 0x56, 0xEF⟩ := by
  decide +kernel

theorem test_setbrt_below_zero : pixelAfter .setbrt 2 (v3 (.fin (-3))) = some ⟨0x12, 0x34, 0x56, 0xE0⟩ := by
  decide +kernel

theorem test_setrgbl : pixelAfter (.setrgbl 0xFF 0 0) 2 (v3 (.fin 1)) = some ⟨0xFF, 0x00, 0x00, 0xFF⟩ := by
  decide +kernel

theorem test_clr_keeps_brightness : pixelAfter .clr 2 (v3 (.fin 0)) = some ⟨0, 0, 0, 0xE6⟩ := by decide

theorem test_serbytes_wire_order :
    outOf .serbytes (v3 (.fin 0)) = some (.response (.ok (.bytes 0xE6 0x56 0x34 0x12))) := by decide

/-! ## D-format on pixels (V4) -/

theorem test_getpix_7 :
    outOf (.getpix 7) (fresh (.fin 0)) = some (.response (.ok (.rgbl 0 0 0 (.fin (mkRat 6 31))))) := by
  decide +kernel

theorem test_getpix_8_errs :
    wordAfter (.getpix 8) (fresh (.fin 0)) = some 0x4008 ∧ wordAfter (.getpix 255) (fresh (.fin 0)) = some 0x40FF := by
  decide

theorem test_setpix_3 :
    pixelAfter (.setpix 3 0x12 0x34 0x56) 3 (fresh (.fin (mkRat 1 5))) = some ⟨0x12, 0x34, 0x56, 0xE6⟩ := by
  decide +kernel

theorem test_setpix_8_changes_nothing :
    (after (exec (.setpix 8 1 2 3) (fresh .nan))).map (fun t => (t.pix, t.draws)) =
      some (State.reset.pix, 0) := by decide

theorem test_setall :
    pixelAfter (.setall 0x0A 0x14 0x1E) 7 (fresh (.fin (mkRat 3 4))) = some ⟨0x0A, 0x14, 0x1E, 0xF7⟩ := by
  decide +kernel

theorem test_clrall : pixelAfter .clrall 5 (v3 (.fin 1)) = some ⟨0, 0, 0, 0xE6⟩ := by decide +kernel

/-! ## TRANSMIT (V7) -/

/-- V7's landmarks for state Q's pixel 0, (F0, 20, 01, E3). -/
theorem test_ev_landmarks :
    let q := State.reset.pix.set 0 ⟨0xF0, 0x20, 0x01, 0xE3⟩
    (ev q 0, ev q 1, ev q 64, ev q 65) = ((.data, false), (.clk, true), (.clk, false), (.data, true)) ∧
    (ev q 74, ev q 86, ev q 110, ev q 137) = ((.data, false), (.data, true), (.data, true), (.data, true)) ∧
    (ev q 832, ev q 833, ev q 904, ev q 905) =
      ((.clk, false), (.data, false), (.clk, true), (.clk, false)) := by decide

/-- A write that fails ends TRANSMIT with the stage of that write: write 0 is of SOF (R184). -/
theorem test_transmit_first_write_fails :
    wordAfter .transmit (failing 3) = some 0x3000 ∧
      (after (exec .transmit (failing 3))).map (·.trace) = some [⟨.data, false, false⟩] := by decide +kernel

/-- One step of the sequencer performs one write (R124): write 65 is W(DATA, 1), bit 7 of 0xE6. -/
theorem test_sequencer_step :
    (after (step (running 65 []))).map (fun t => (t.trace, t.seq, t.txBusy)) =
      some ([⟨.data, true, true⟩], 66, true) := by decide +kernel

/-! ## CONSTRUCT and TEARDOWN -/

/-- R141's example. -/
theorem test_construct :
    (after (exec (.construct true) (void []))).map (fun t => (t.life, t.cot, t.claimed, t.trace, t.calls)) =
      some (.live, true, [23, 24], [], 3) := by decide +kernel

/-- R143: the clock request fails and the data line is released again. -/
theorem test_construct_clock_request_fails :
    (after (exec (.construct true) (void [2]))).map (fun t => (t.life, t.claimed, wordOut t.out)) =
      some (.void, [], some 0x2001) := by decide +kernel

/-- R149: COT = 0 writes no line and releases both. -/
theorem test_teardown_without_flag :
    (after (exec .teardown { State.reset with cot := false })).map
      (fun t => (t.life, t.claimed, t.trace, wordOut t.out)) = some (.dead, [], [], some 0x0000) := by decide +kernel

/-- R148: the failed attempt is in TRACE, the response is Ok. -/
theorem test_teardown_swallows_failure :
    (after (exec .teardown (failing 3))).map (fun t => (t.life, t.claimed, t.trace, wordOut t.out)) =
      some (.dead, [], [⟨.data, false, false⟩], some 0x0000) := by decide +kernel

/-! ## G-format and the wire frames -/

/-- R157: a fresh GPIOSIM's first OPEN. -/
theorem test_open :
    (after (exec .openchip (void []))).map (fun t => (t.chipOpen, t.calls, t.out)) =
      some (true, 1, .call .chipHandle) := by decide

/-- R158's example: line 23 is claimed at level 0. -/
theorem test_reqline :
    (after (exec (.reqline .data false) { void [] with chipOpen := true, lineNumber := 23 })).map
      (fun t => (t.claimed, t.line, t.trace)) = some ([23], [(23, false)], []) := by decide

/-- R160: an already claimed line, and the first number that is not below NUM_LINES. -/
theorem test_reqline_fails :
    outOf (.reqline .data false) { State.reset with lineNumber := 23 } = some (.call .fail) ∧
    outOf (.reqline .data false) { State.reset with lineNumber := 54 } = some (.call .fail) := by decide

/-- R161's example: W(CLK, 1, ok). -/
theorem test_setval :
    (after (exec (.setval .clk true) State.reset)).map (fun t => (t.line, t.trace, t.hist)) =
      some ([(23, false), (24, true)], [⟨.clk, true, true⟩], [(false, false), (false, true)]) := by decide

/-- R164: the line leaves CLAIMED and CALLS stays. -/
theorem test_release :
    (after (exec (.release .data) State.reset)).map (fun t => (t.claimed, t.line, t.calls)) =
      some ([24], [(24, false)], 3) := by decide

/-- R163 is total: a write to a line that nobody holds is recorded all the same. -/
theorem test_setval_unheld :
    (after (exec (.setval .data true) (void []))).map (fun t => (t.line, t.trace, t.claimed)) =
      some ([(23, true)], [⟨.data, true, true⟩], []) := by decide

/-- R61, R64: one data write and 64 clock writes, and the transmission goes on with pixel 0. -/
theorem test_sof :
    (after (exec .sof (running 0 []))).map (fun t => (t.trace.length, t.calls, t.seq)) = some (65, 68, 65) := by
  decide +kernel

/-- R62, R64: three writes for each of 32 bits; the first is W(DATA, 1), the marker; pixel 1 is next. -/
theorem test_ledframe :
    (after (exec (.ledframe 6 0 0 0) (running 65 []))).map (fun t => (t.trace.length, t.trace.head?, t.seq)) =
      some (96, some ⟨.data, true, true⟩, 161) := by decide +kernel

/-- R42, R54: a frame that is not what the transmission sends next writes nothing. -/
theorem test_frame_out_of_place :
    refusal (exec (.ledframe 7 0 0 0) (running 65 [])) = some .notInTransmission ∧
    refusal (exec .sof State.reset) = some .notInTransmission := by decide +kernel

/-- R63, R64: one data write and 72 clock writes, and the transmission ends with Ok. -/
theorem test_eof :
    (after (exec .eof (running 833 []))).map (fun t => (t.trace.length, t.calls, t.txBusy, wordOut t.out)) =
      some (73, 76, false, some 0x0000) := by decide +kernel

/-- R5: a bit pattern on LVL stands for the level LEVEL_REPR gives it, here 7 for 0.5. -/
theorem test_level_repr :
    (after (step { State.reset with
      cfg := { Config.illustration with levelRepr := [(7, .fin (mkRat 1 2))] }
      script := [⟨0x4003010203, .bits 7, false⟩] })).map (·.pix[3]) = some ⟨1, 2, 3, 0xEF⟩ := by decide +kernel

/-! ## Witnesses: the hypotheses of every obligation can be met -/

theorem noFail_of_never (s : State) (n : Nat) (h : s.fail = ⟨.ok, []⟩) : s.NoFail n := by
  intro k _; simp [FailOracle.fails, Answer.fails, h]

theorem firstFail_of_listed (s : State) (f c : Nat) (h : s.fail = ⟨.ok, [c]⟩) (hc : c = s.calls + f) :
    s.FirstFail f := by
  constructor
  · intro k hk; simp only [FailOracle.fails, Answer.fails, h]; simp; omega
  · simp [FailOracle.fails, Answer.fails, h, hc]

theorem reset_usable : State.reset.Usable := ⟨rfl, rfl⟩

/-- DecodeEncodeRoundTrip, DecodedWordsReencode: the two ends of the index's range. -/
theorem test_witness_round_trip :
    (Instr.getpix 0).wellFormed = true ∧ (Instr.setpix 255 255 255 255).wellFormed = true ∧
      decode (.d 0x40FFFFFFFF) = .ok (.setpix 255 255 255 255) := by decide

/-- ReservedWordsAreRefused: on the host's port and on DRV's own. -/
theorem test_witness_reserved :
    let s := { State.reset with script := [request 0x2000000001] }
    let u := { State.reset with unitPort := some (toUnit (.p 0x4000001)) }
    s.unitPort = none ∧ s.txBusy = false ∧ (Word.d (request 0x2000000001).word).matchesRow = false ∧
      u.unitPort = some (toUnit (.p 0x4000001)) ∧ (toUnit (.p 0x4000001)).word.toWord.matchesRow = false := by decide

/-- StepRunsTheDecodedInstruction: a host's word and a word of DRV's own. -/
theorem test_witness_step :
    let s := { State.reset with script := [request 0x6000000000] }
    let u := { State.reset with unitPort := some (toUnit (.g 0b1011)) }
    s.unitPort = none ∧ s.txBusy = false ∧ s.script = [request 0x6000000000] ∧
      decode (.d (request 0x6000000000).word) = .ok .clrall ∧ (request 0x6000000000).stepwise = false ∧
      u.unitPort = some (toUnit (.g 0b1011)) ∧
      decode (toUnit (.g 0b1011)).word.toWord = .ok (.setval .clk true) := by
  decide

/-- StepWaitsWithoutCommand. -/
theorem test_witness_wait :
    State.reset.unitPort = none ∧ State.reset.txBusy = false ∧ State.reset.script = [] := by decide

/-- FetchedWordRunsNext: CONSTRUCT, a P-word, a REQLINE whose line number DRV passes, and the three frames
are the very next instruction. -/
theorem test_witness_fetch :
    (after (step ((void []).withFetchWord 40 0x1000000001))).map (·.life) = some .live ∧
      (after (step (State.reset.withFetchWord 28 0x3010203))).map (·.pix[0]) = some ⟨1, 2, 3, 0xE6⟩ ∧
      (after (step ({ void [] with chipOpen := true }.withFetchWord 4 0b0111))).map (·.claimed) = some [24] := by
  decide +kernel

theorem test_witness_fetch_frames :
    (after (step (State.reset.withFetchWord 32 0))).map (·.seq) = some 65 ∧
      (after (step (State.reset.withFetchWord 32 0xE6563412))).map (fun t => (t.seq, t.pix[0])) =
        some (161, ⟨0x12, 0x34, 0x56, 0xE6⟩) ∧
      (after (step (State.reset.withFetchWord 36 0))).map (·.txBusy) = some false := by decide +kernel

/-- BusyTakesNoCommand. -/
theorem test_witness_busy :
    (running 0 []).txBusy = true ∧ (running 0 []).unitPort = none ∧ Instr.clrall.format ≠ .w ∧
      Instr.clrall ≠ .serbytes ∧ refusal (exec .clrall (running 0 [])) = some .busy := by decide

/-- LifecycleDecidesAcceptance: one state for each clause. -/
theorem test_witness_lifecycle :
    Instr.transmit.format = .d ∧ (void []).txBusy = false ∧ (void []).life = .void ∧
      State.reset.life = .live ∧ dead.txBusy = false ∧ dead.life = .dead ∧
      refusal (exec .transmit (void [])) = some .notAccepted ∧
      refusal (exec (.construct true) State.reset) = some .notAccepted ∧
      refusal (exec .teardown dead) = some .notAccepted := by decide

/-- LifecycleDecidesAcceptance, the other ports: no pixel, a call, no transmission. -/
theorem test_witness_other_ports :
    Instr.clr.format = .p ∧ refusal (exec .clr (void [])) = some .noPixel ∧
      Instr.openchip.format = .g ∧ (after (exec .openchip (void []))).isSome = true ∧
      Instr.eof.format = .w ∧ refusal (exec .eof State.reset) = some .notInTransmission := by decide

/-- QuantiserLaws: both ends of k's range meet the interval, and 1 lies above it. -/
theorem test_witness_quantiser :
    (0 ≤ clampRat (mkRat 0 1) ∧ clampRat (mkRat 0 1) < mkRat 1 31) ∧
      (mkRat 30 31 ≤ clampRat (mkRat 99 100) ∧ clampRat (mkRat 99 100) < 1) ∧
      (quant5 0 (.fin (mkRat 99 100))).toNat = 30 := by decide +kernel

/-- The P-format statements: GETRGB, GETRGBL, SETRGB, SETBRT, SETRGBL, CLR, SERBYTES. -/
theorem test_witness_pixel_ops : (v3 .nan).Usable ∧ (v3 (.fin 1)).Usable ∧ Instr.clr.format = .p :=
  ⟨⟨rfl, rfl⟩, ⟨rfl, rfl⟩, rfl⟩

/-- SetbrtReadBackLaws: a level for each clause, the ends of [0, 1] included. -/
theorem test_witness_setbrt_clauses :
    State.reset.Usable ∧ (mkRat (-1) 1000 < 0) ∧ (1 < mkRat 1001 1000) ∧ ((0 : Rat) ≤ 0 ∧ (0 : Rat) ≤ 1) ∧
      ((0 : Rat) ≤ 1 ∧ (1 : Rat) ≤ 1) ∧ (0 ≤ mkRat 1 2 ∧ mkRat 1 2 ≤ 1) :=
  ⟨reset_usable, by decide +kernel⟩

/-- PixelOperationsReachOnePixel: another pixel vector that agrees in the addressed pixel. -/
theorem test_witness_other_pixels :
    (v3 (.fin 0)).Usable ∧ (3 : Fin 8) ≠ (v3 (.fin 0)).cell ∧
      (Vector.replicate 8 (⟨0x12, 0x34, 0x56, 0xE6⟩ : Pixel))[(v3 (.fin 0)).cell] =
        (v3 (.fin 0)).pix[(v3 (.fin 0)).cell] := ⟨⟨rfl, rfl⟩, by decide, by decide⟩

/-- GETPIX and SETPIX: index 0, 7, 8 and 255. -/
theorem test_witness_index : (fresh .nan).Usable ∧ (0 < 8 ∧ 7 < 8) ∧ (8 ≤ 8 ∧ 8 ≤ 255) :=
  ⟨⟨rfl, rfl⟩, by decide, by decide⟩

/-- SerbytesInWireOrder: also while a transmission runs. -/
theorem test_witness_serbytes : (running 65 []).life = .live ∧ (running 65 []).txBusy = true := by decide

/-- SETALL, SetallMakesPixelsAlike, CLRALL. -/
theorem test_witness_setall : (fresh (.fin 1)).Usable ∧ (fresh (.fin 1)).lvl ≠ .nan :=
  ⟨⟨rfl, rfl⟩, by decide⟩

/-- OnlyTransmitAndTeardownWriteLines: both operations change TRACE; a step changes a line's level, and a
step changes a pixel. -/
theorem test_witness_trace_changes :
    (after (exec .transmit (failing 3))).map (fun t => decide (t.trace ≠ (failing 3).trace)) = some true ∧
    (after (exec .teardown (failing 3))).map (fun t => decide (t.trace ≠ (failing 3).trace)) = some true ∧
    (running 65 []).unitPort = none ∧ (after (step (running 65 []))).map (levelAt 23 ·.line) = some (some true) ∧
    (after (step { v3 (.fin 0) with script := [request 0x6000000000] })).map (·.pix[2]) =
      some ⟨0, 0, 0, 0xE6⟩ := by
  decide +kernel

/-- TransmitBigStep, and the clauses of TRANSMIT in ProtocolIsTheNumberedList, TransmissionIsItsFramesInOrder and
TransmitIsStatelessBetweenCalls: no failure, and the first and the last write failing, on the two lines. -/
theorem test_witness_transmit :
    State.reset.Usable ∧ State.reset.NoFail 906 ∧ State.reset.hist ≠ [] ∧
      State.reset.lineNo .data ≠ State.reset.lineNo .clk ∧
      (failing 3).FirstFail 0 ∧ (failing 908).FirstFail 905 ∧ (failing 3).lineNo .data ≠ (failing 3).lineNo .clk ∧
      ev (failing 3).pix 0 = (.data, false) ∧ ev (failing 908).pix 905 = (.clk, false) :=
  ⟨reset_usable, noFail_of_never _ _ rfl, by decide, by decide, firstFail_of_listed _ _ _ rfl rfl,
    firstFail_of_listed _ _ _ rfl rfl, by decide, by decide, by decide⟩

/-- The level a failure of write 66 leaves on the data line is that of write 65 (10_state.md R25), and of a
failure of write 0 on the clock line the one it had. -/
theorem test_level_after :
    levelAfter State.reset .data 66 = some true ∧ levelAfter clockHigh .clk 0 = some true ∧
      levelAfter clockHigh .clk 2 = some true ∧ levelAfter clockHigh .clk 3 = some false := by decide +kernel

/-- TransmitSampledStreamIsBits. -/
theorem test_witness_clock_low :
    State.reset.Usable ∧ State.reset.Wired ∧ State.reset.HistCurrent ∧ State.reset.levels.2 = false ∧
      State.reset.NoFail 906 :=
  ⟨reset_usable, ⟨rfl, rfl, by decide, rfl, rfl⟩, rfl, rfl, noFail_of_never _ _ rfl⟩

/-- TransmitClockHighLosesOnePulse. -/
theorem test_witness_clock_high :
    clockHigh.Usable ∧ clockHigh.Wired ∧ clockHigh.HistCurrent ∧ clockHigh.levels.2 = true ∧ clockHigh.NoFail 906 :=
  ⟨⟨rfl, rfl⟩, ⟨rfl, rfl, by decide, rfl, rfl⟩, rfl, rfl, noFail_of_never _ _ rfl⟩

/-- ProtocolIsTheNumberedList, DataIsStableDuringPulses: the first and last writes of each kind. -/
theorem test_witness_writes :
    ev State.reset.pix 1 = (.clk, true) ∧ ev State.reset.pix 904 = (.clk, true) ∧
      ev State.reset.pix 0 = (.data, false) ∧ ev State.reset.pix 833 = (.data, false) := by decide

/-- StageOfEveryWrite: no write falls under two clauses where they meet. -/
theorem test_witness_stages :
    (stage 64, stage 65, stage 88, stage 89) = (.sof, .pixel 0 0, .pixel 0 0, .pixel 0 1) ∧
      (stage 832, stage 833, stage 905) = (.pixel 7 3, .eof, .eof) := by decide

/-- ResponseWordsCarryStatusAndInfo: the ends of the index's range. -/
theorem test_witness_index_error : 255 < 256 ∧ (Response.indexError 8).word = 0x4008 := by decide

/-- SequencerStepWritesOnce: going on, ending with Ok, ending with an error. -/
theorem test_witness_sequencer :
    (running 0 []).unitPort = none ∧ (running 0 []).txBusy = true ∧
      (running 0 []).fail.fails (running 0 []).calls = false ∧ (running 0 []).seq + 1 ≠ 906 ∧
      (running 905 []).fail.fails (running 905 []).calls = false ∧ (running 905 []).seq + 1 = 906 ∧
      (running 65 [3]).fail.fails (running 65 [3]).calls = true := by decide

/-- StepwiseTransmitEqualsBigStep. -/
theorem test_witness_stepwise :
    let s := { State.reset with script := [watched] }
    s.Usable ∧ s.unitPort = none ∧ s.script = [watched] ∧ watched.stepwise = true ∧
      decode (.d watched.word) = .ok .transmit := ⟨⟨rfl, rfl⟩, by decide⟩

/-- TransmitIsStatelessBetweenCalls: two states with equal pixels but another history. -/
theorem test_witness_two_transmissions :
    State.reset.Usable ∧ clockHigh.Usable ∧ State.reset.pix = clockHigh.pix ∧ State.reset.NoFail 906 ∧
      clockHigh.NoFail 906 :=
  ⟨reset_usable, ⟨rfl, rfl⟩, rfl, noFail_of_never _ _ rfl, noFail_of_never _ _ rfl⟩

/-- SampledStreamReadsBack. -/
theorem test_witness_markers : ∀ p : Fin 8, State.reset.pix[p].brt &&& 0xE0 = 0xE0 := by decide

/-- The wire frames, each where the transmission comes to it: no failure, and the first and last write of
each failing, for the first and the last pixel. -/
theorem test_witness_frames :
    (running 0 []).txBusy = true ∧ (running 0 []).NoFail 65 ∧ (running 65 []).NoFail 96 ∧
      (running 737 []).seq = 65 + 96 * 7 ∧ (running 833 []).NoFail 73 ∧
      (running 0 [3]).FirstFail 0 ∧ (running 0 [67]).FirstFail 64 ∧ (running 737 [98]).FirstFail 95 ∧
      (running 833 [75]).FirstFail 72 :=
  ⟨rfl, noFail_of_never _ _ rfl, noFail_of_never _ _ rfl, rfl, noFail_of_never _ _ rfl,
    firstFail_of_listed _ _ _ rfl rfl, firstFail_of_listed _ _ _ rfl rfl, firstFail_of_listed _ _ _ rfl rfl,
    firstFail_of_listed _ _ _ rfl rfl⟩

/-- ConstructLeavesResetValues, ConstructSucceeds: also with another line claimed. -/
theorem test_witness_construct :
    let s := { void [] with claimed := [7] }
    s.txBusy = false ∧ s.life = .void ∧ s.cfg.dataLine ≠ s.cfg.clkLine ∧ s.cfg.dataLine < s.cfg.numLines ∧
      s.cfg.clkLine < s.cfg.numLines ∧ s.cfg.dataLine ∉ s.claimed ∧ s.cfg.clkLine ∉ s.claimed ∧ s.NoFail 3 ∧
      (State.powerOn Config.illustration FailOracle.never).NoFail 3 :=
  ⟨rfl, rfl, by decide, by decide, by decide, by decide, by decide, noFail_of_never _ _ rfl,
    noFail_of_never _ _ rfl⟩

/-- ConstructFailsAtFirstCall: chip, data line by the oracle and already claimed, clock line by the oracle
and by DATA_LINE = CLK_LINE. -/
theorem test_witness_construct_fails :
    (void [0]).fail.fails (void [0]).calls = true ∧
    ((void [1]).fail.fails 0 = false ∧ (void [1]).fail.fails ((void [1]).calls + 1) = true) ∧
    (State.powerOn { Config.illustration with numLines := 23 } FailOracle.never).cfg.numLines ≤ 23 ∧
    23 ∈ ({ void [] with claimed := [23] } : State).claimed ∧
    ((void [2]).fail.fails 0 = false ∧ (void [2]).fail.fails 1 = false ∧
      (void [2]).fail.fails ((void [2]).calls + 2) = true ∧ 23 < (void [2]).cfg.numLines ∧
      23 ∉ (void [2]).claimed) ∧
    (State.powerOn { Config.illustration with clkLine := 23 } FailOracle.never).cfg.clkLine =
      (State.powerOn { Config.illustration with clkLine := 23 } FailOracle.never).cfg.dataLine := by decide

/-- The three TEARDOWN statements. -/
theorem test_witness_teardown :
    State.reset.Usable ∧ State.reset.cot = true ∧ State.reset.NoFail 906 ∧
      (failing 3).cot = true ∧ (failing 3).FirstFail 0 ∧ (failing 908).FirstFail 905 ∧
      ({ State.reset with cot := false } : State).cot = false :=
  ⟨reset_usable, rfl, noFail_of_never _ _ rfl, rfl, firstFail_of_listed _ _ _ rfl rfl,
    firstFail_of_listed _ _ _ rfl rfl, rfl⟩

/-- LifecycleTransitions, CotWrittenOnlyByConstruct: a step from VOID to LIVE that writes COT, and one
from LIVE to DEAD. -/
theorem test_witness_transitions :
    (after (step { void [] with script := [request 0x1000000001] })).map (fun t => (t.life, t.cot)) =
      some (.live, true) ∧
    (after (step { State.reset with cot := false, script := [request 0x7000000000] })).map (·.life) =
      some .dead := by decide +kernel

/-- NewDriverKeepsOnlyTheRecorder: the new Driver can be constructed. -/
theorem test_witness_new_driver :
    (after (exec (.construct false) dead.newDriver)).map (·.life) = some .live := by decide +kernel

/-- The four G-format statements. -/
theorem test_witness_gpio :
    State.reset.txBusy = false ∧ State.reset.Requestable 53 ∧ State.reset.fail.fails State.reset.calls = false ∧
      (failing 3).fail.fails (failing 3).calls = true ∧ ¬ State.reset.Requestable 54 ∧
      (running 65 []).txBusy = true :=
  ⟨rfl, ⟨rfl, by decide, by decide⟩, by decide, by decide, fun h => absurd h.valid (by decide), rfl⟩

/-- Where the two REQLINE clauses meet: number 54 is the first that is not valid, and a failing oracle call
excludes the first clause. -/
theorem test_witness_reqline_bound : 53 < State.reset.cfg.numLines ∧ ¬ 54 < State.reset.cfg.numLines := by decide

theorem inv_of_reset_fields (s : State) (h1 : s.pix = State.reset.pix) (h2 : s.cfg = Config.illustration)
    (h3 : s.claimed = [23, 24]) (h4 : s.line = [(23, false), (24, false)]) (h5 : s.life = .live)
    (h6 : s.hdata = some 23) (h7 : s.hclk = some 24) (h8 : s.trace = []) (h9 : s.hist = [(false, false)])
    (hb : s.txBusy = false → s.seq = 0) (hs : s.seq < 906) : Inv s where
  marker := by rw [h1]; decide
  seqIdle := hb
  seqBusy _ := ⟨hs, h5⟩
  claimedRising := by rw [h3]; decide
  lineRising := by rw [h4]; decide
  handlesLive _ := by rw [h2]; exact ⟨h6, h7⟩
  handlesNot h := absurd h5 h
  counts := by simp [h8, h9]

theorem owned_of_reset_fields (s : State) (h1 : s.unitPort = none) (h2 : s.cfg = Config.illustration)
    (h3 : s.claimed = [23, 24]) (h4 : s.line = [(23, false), (24, false)]) : Owned s where
  unitPort := h1
  levelClaimed n hn := by
    simp only [h4, levelAt] at hn
    rw [h3, h2]
    by_cases ha : n = 23
    · subst ha; decide
    · by_cases hc : n = 24
      · subst hc; decide
      · simp [ha, hc] at hn
  linesHeld _ := by simp only [State.held, h2, h3, h4]; decide

/-- StepKeepsInvariant, RecorderOnlyGrows, BusyBlockAlwaysSteps: a running block that meets the invariants
and takes a step. -/
theorem test_witness_invariant :
    Inv (running 65 []) ∧ Owned (running 65 []) ∧ (running 65 []).unitPort = none ∧ (running 65 []).txBusy = true ∧
      (after (step (running 65 []))).map (·.seq) = some 66 :=
  ⟨inv_of_reset_fields _ rfl rfl rfl rfl rfl rfl rfl rfl rfl (by decide) (by decide),
    owned_of_reset_fields _ rfl rfl rfl rfl, rfl, rfl, by decide +kernel⟩

end Sys2Proof.Tests
end

/-! # What every step keeps, and the life of a Driver (10_state.md)

Layers: the marker bits; what an executed instruction has done, said once; each operation keeps `Inv`;
each operation of DRV's keeps `Owned`; the obligations. -/

namespace Sys2Proof.Machine

/-! ## The marker bits (10_state.md R16) -/

@[simp] theorem packBrt_and_marker (k : Level5) : packBrt k &&& 0xE0 = 0xE0 := by decide +revert

/-- Every brightness byte is the one it was or a packed level. -/
def BrtKeptOrPacked (before after : Vector Pixel 8) : Prop :=
  ∀ i : Fin 8, after[i].brt = before[i].brt ∨ ∃ k, after[i].brt = packBrt k

theorem BrtKeptOrPacked.refl (pix : Vector Pixel 8) : BrtKeptOrPacked pix pix := fun _ => .inl rfl

theorem BrtKeptOrPacked.set (pix : Vector Pixel 8) (j : Fin 8) {p : Pixel}
    (hp : p.brt = pix[j].brt ∨ ∃ k, p.brt = packBrt k) : BrtKeptOrPacked pix (pix.set j p) := fun i => by
  by_cases hij : j = i
  · subst hij; simpa using hp
  · have hne : j.val ≠ i.val := fun h => hij (Fin.ext h)
    exact .inl (by simp [Vector.getElem_set_ne, hne])

theorem BrtKeptOrPacked.ofFn {pix : Vector Pixel 8} {f : Fin 8 → Pixel} (hf : ∀ i, ∃ k, (f i).brt = packBrt k) :
    BrtKeptOrPacked pix (Vector.ofFn f) := fun i => .inr (by simpa using hf i)

theorem BrtKeptOrPacked.marker {before after : Vector Pixel 8} (h : BrtKeptOrPacked before after)
    (hm : ∀ i : Fin 8, before[i].brt &&& 0xE0 = 0xE0) (i : Fin 8) : after[i].brt &&& 0xE0 = 0xE0 := by
  rcases h i with hk | ⟨k, hk⟩
  · rw [hk]; exact hm i
  · rw [hk]; exact packBrt_and_marker k

/-! ## REQLINE: everything it can do (44_gpio_sim.md R158 to R160, R165) -/

theorem State.requestLine_cases (s : State) (n : Nat) (v : Bit) (label : String) :
    (s.requestLine n v label).2 = false ∧ (s.requestLine n v label).1 = { s with calls := s.calls + 1 } ∨
    (s.requestLine n v label).2 = true ∧ s.Requestable n ∧ ∃ hs,
      (s.requestLine n v label).1 = { s with
        calls := s.calls + 1, claimed := insertClaim n s.claimed, line := setLevel n v s.line, hist := hs } ∧
      (hs = s.hist ∨ hs.length = 1) := by
  cases hok : (s.requestLine n v label).2 with
  | false => exact .inl ⟨rfl, State.requestLine_fail hok⟩
  | true =>
    refine .inr ⟨rfl, ((State.requestLine_ok_iff s n v label).1 hok).1, ?_⟩
    obtain ⟨hs, heq, hhs⟩ := State.startHist_eq
      { s with calls := s.calls + 1, claimed := insertClaim n s.claimed, line := setLevel n v s.line }
    refine ⟨hs, (State.requestLine_success hok).trans heq, ?_⟩
    rcases hhs with rfl | ⟨-, rfl⟩
    · exact .inl rfl
    · exact .inr rfl

/-- What a successful request adds (44_gpio_sim.md R158). -/
theorem State.requestLine_claims {s : State} {n : Nat} {v : Bit} {label : String}
    (h : (s.requestLine n v label).2 = true) :
    (s.requestLine n v label).1.claimed = insertClaim n s.claimed ∧
      (s.requestLine n v label).1.line = setLevel n v s.line := by
  obtain ⟨hbad, -⟩ | ⟨-, -, hs, heq, -⟩ := s.requestLine_cases n v label
  · exact absurd (h.symm.trans hbad) nofun
  · rw [heq]; exact ⟨rfl, rfl⟩

theorem State.requestLine_sameEnv (s : State) (n : Nat) (v : Bit) (label : String) :
    SameEnv s (s.requestLine n v label).1 := by
  obtain ⟨-, h⟩ | ⟨-, -, hs, h, -⟩ := s.requestLine_cases n v label <;> rw [h] <;> constructor <;> rfl

theorem State.requestLine_sameDriver (s : State) (n : Nat) (v : Bit) (label : String) :
    SameDriver s (s.requestLine n v label).1 := by
  obtain ⟨-, h⟩ | ⟨-, -, hs, h, -⟩ := s.requestLine_cases n v label <;> rw [h] <;> constructor <;> rfl

theorem State.openChip_sameEnv (s : State) (path : String) : SameEnv s (s.openChip path).1 := by
  rw [State.openChip_state]; constructor <;> rfl

theorem State.openChip_sameDriver (s : State) (path : String) : SameDriver s (s.openChip path).1 := by
  rw [State.openChip_state]; constructor <;> rfl

theorem SameDriver.trans {s t u : State} (h : SameDriver s t) (k : SameDriver t u) : SameDriver s u :=
  ⟨k.cot.trans h.cot, k.hdata.trans h.hdata, k.hclk.trans h.hclk, k.life.trans h.life⟩

/-! ## The three calls of CONSTRUCT (43_lifecycle.md R141 to R143) -/

/-- After the first call, OPEN. -/
def State.constructOpen (s : State) : State := (s.openChip s.cfg.chipPath).1

/-- After the second call, the request of the data line. -/
def State.constructData (s : State) : State × Bool :=
  s.constructOpen.requestLine s.cfg.dataLine Config.initData s.cfg.label

/-- After the third call, the request of the clock line. -/
def State.constructClk (s : State) : State × Bool :=
  s.constructData.1.requestLine s.cfg.clkLine Config.initClk s.cfg.label

theorem State.constructOpen_sameDriver (s : State) : SameDriver s s.constructOpen :=
  s.openChip_sameDriver _

theorem State.constructData_sameDriver (s : State) : SameDriver s s.constructData.1 :=
  s.constructOpen_sameDriver.trans (State.requestLine_sameDriver ..)

theorem State.constructClk_sameDriver (s : State) : SameDriver s s.constructClk.1 :=
  s.constructData_sameDriver.trans (State.requestLine_sameDriver ..)

theorem State.constructClk_cfg (s : State) : s.constructClk.1.cfg = s.cfg :=
  (State.requestLine_sameEnv ..).cfg.trans
    ((State.requestLine_sameEnv ..).cfg.trans (State.openChip_sameEnv ..).cfg)

/-- CONSTRUCT in terms of its three calls. -/
theorem execConstruct_eq (cot : Bit) (s : State) : execConstruct cot s = s.whenVoid
    (if !(s.openChip s.cfg.chipPath).2 then .next (s.constructOpen.failConstruct .acquireChipError)
    else if !s.constructData.2 then .next (s.constructData.1.failConstruct (.acquireLineError .data))
    else if !s.constructClk.2 then
      .next ((s.constructClk.1.releaseLine s.cfg.dataLine).failConstruct (.acquireLineError .clk))
    else .next (s.constructClk.1.becomeLive cot)) := rfl

/-- Where CONSTRUCT gives up: after the first or the second call, or after the third with the data line
released again (43_lifecycle.md R143). -/
inductive ConstructAborts (s : State) : State → Prop
  | chip : ConstructAborts s s.constructOpen
  | data : ConstructAborts s s.constructData.1
  | clk : ConstructAborts s (s.constructClk.1.releaseLine s.cfg.dataLine)

theorem ConstructAborts.sameDriver {s u : State} (h : ConstructAborts s u) : SameDriver s u := by
  cases h with
  | chip => exact s.constructOpen_sameDriver
  | data => exact s.constructData_sameDriver
  | clk => exact s.constructClk_sameDriver.trans ⟨rfl, rfl, rfl, rfl⟩

/-! ## What an executed instruction has done -/

/-- The ways an instruction that is executed takes `s` to its next state. -/
inductive Executed (s : State) : Instr → State → Prop
  /-- CONSTRUCT fails (43_lifecycle.md R143). -/
  | constructFails {cot : Bit} {u : State} {e : Response} (idle : s.txBusy = false) (void : s.life = .void)
    (aborts : ConstructAborts s u) : Executed s (.construct cot) (u.failConstruct e)
  /-- CONSTRUCT succeeds (43_lifecycle.md R141). -/
  | constructs {cot : Bit} (idle : s.txBusy = false) (void : s.life = .void) (data : s.constructData.2 = true)
    (clk : s.constructClk.2 = true) : Executed s (.construct cot) (s.constructClk.1.becomeLive cot)
  /-- TEARDOWN (43_lifecycle.md R146). -/
  | teardown (usable : s.Usable) : Executed s .teardown (if s.cot then s.blank else s).becomeDead
  /-- TRANSMIT (42_transmit.md R123). -/
  | transmit (usable : s.Usable) : Executed s .transmit s.transmit
  /-- An operation on pixel state, of D- or P-format (40_pixel_ops.md, 41_driver_ops.md). -/
  | pixels {i : Instr} {pix : Vector Pixel 8} {draws : Nat} {r : Response} (usable : s.Usable)
    (brt : BrtKeptOrPacked s.pix pix) :
    Executed s i (({ s with pix := pix, draws := draws } : State).respond r)
  /-- SERBYTES (40_pixel_ops.md R97). -/
  | serbytes {p : Payload} (live : s.life = .live) : Executed s .serbytes (s.answer p)
  /-- OPEN (44_gpio_sim.md R157). -/
  | openchip {c : CallResult} (idle : s.txBusy = false) :
    Executed s .openchip ((s.openChip s.cfg.chipPath).1.returnCall c)
  /-- REQLINE (44_gpio_sim.md R158). -/
  | reqline {sel : Line} {v : Bit} {c : CallResult} (idle : s.txBusy = false) :
    Executed s (.reqline sel v) ((s.requestLine s.lineNumber v s.cfg.label).1.returnCall c)
  /-- SETVAL (44_gpio_sim.md R161). -/
  | setval {sel : Line} {v : Bit} {c : CallResult} :
    Executed s (.setval sel v) ((s.setValue (s.cfg.lineNo sel) sel v).1.returnCall c)
  /-- RELEASE (44_gpio_sim.md R164). -/
  | release {sel : Line} (idle : s.txBusy = false) :
    Executed s (.release sel) ((s.releaseLine (s.cfg.lineNo sel)).returnCall .released)
  /-- A wire frame: the next writes of the running transmission (log 9). -/
  | frame {i : Instr} {n : Nat} (format : i.format = .w) (busy : s.txBusy = true) : Executed s i (s.txRun n)

theorem execConstruct_executed {cot : Bit} {s t : State} (h : execConstruct cot s = .next t) :
    Executed s (.construct cot) t := by
  rw [execConstruct_eq] at h
  obtain ⟨hb, hv, h⟩ := State.whenVoid_next h
  split at h
  · cases h; exact .constructFails hb hv .chip
  · split at h
    · cases h; exact .constructFails hb hv .data
    · next hd =>
      split at h
      · cases h; exact .constructFails hb hv .clk
      · next hc => cases h; exact .constructs hb hv (by simpa using hd) (by simpa using hc)

/-- Everything an instruction that answers a next state can have done. -/
theorem exec_executed {i : Instr} {s t : State} (h : exec i s = .next t) : Executed s i t := by
  cases i with
  | construct cot => exact execConstruct_executed h
  | transmit => obtain ⟨hu, h⟩ := State.whenLive_next h; cases h; exact .transmit hu
  | getpix index =>
    obtain ⟨hu, h⟩ := State.whenLive_next h
    split at h <;> cases h <;> exact .pixels hu (.refl _)
  | setpix index r g b =>
    obtain ⟨hu, h⟩ := State.whenLive_next h
    split at h
    · cases h; exact .pixels hu (.set _ _ (.inr ⟨_, rfl⟩))
    · cases h; exact .pixels hu (.refl _)
  | setall r g b => obtain ⟨hu, h⟩ := State.whenLive_next h; cases h; exact .pixels hu (.ofFn fun _ => ⟨_, rfl⟩)
  | clrall => obtain ⟨hu, h⟩ := State.whenLive_next h; cases h; exact .pixels hu (.ofFn fun _ => ⟨_, rfl⟩)
  | teardown => obtain ⟨hu, h⟩ := State.whenLive_next h; cases h; exact .teardown hu
  | getrgb => obtain ⟨hu, h⟩ := State.whenPixels_next h; cases h; exact .pixels hu (.refl _)
  | getrgbl => obtain ⟨hu, h⟩ := State.whenPixels_next h; cases h; exact .pixels hu (.refl _)
  | setrgb r g b => obtain ⟨hu, h⟩ := State.whenPixels_next h; cases h; exact .pixels hu (.set _ _ (.inl rfl))
  | setbrt => obtain ⟨hu, h⟩ := State.whenPixels_next h; cases h; exact .pixels hu (.set _ _ (.inr ⟨_, rfl⟩))
  | setrgbl r g b =>
    obtain ⟨hu, h⟩ := State.whenPixels_next h; cases h; exact .pixels hu (.set _ _ (.inr ⟨_, rfl⟩))
  | clr => obtain ⟨hu, h⟩ := State.whenPixels_next h; cases h; exact .pixels hu (.set _ _ (.inl rfl))
  | serbytes => obtain ⟨hl, h⟩ := State.whenPixelsExist_next h; cases h; exact .serbytes hl
  | openchip => obtain ⟨hb, h⟩ := State.whenIdle_next h; cases h; exact .openchip hb
  | reqline sel v => obtain ⟨hb, h⟩ := State.whenIdle_next h; cases h; exact .reqline hb
  | setval sel v => cases h; exact .setval
  | release sel => obtain ⟨hb, h⟩ := State.whenIdle_next h; cases h; exact .release hb
  | sof => obtain ⟨hb, -, rfl⟩ := State.sendFrame_next h; exact .frame rfl hb
  | ledframe level5 blue green red => obtain ⟨hb, -, rfl⟩ := State.sendFrame_next h; exact .frame rfl hb
  | eof => obtain ⟨hb, -, rfl⟩ := State.sendFrame_next h; exact .frame rfl hb

/-! ## Each operation keeps `Inv` -/

section KeepsInv
variable {s : State}

theorem Inv.present (h : Inv s) (q : Request) (rest : List Request) : Inv (s.present q rest) := { h with }

theorem Inv.presentUnit (h : Inv s) (u : UnitCommand) : Inv (s.presentUnit u) := { h with }

theorem Inv.answer (h : Inv s) (p : Payload) : Inv (s.answer p) := { h with }

theorem Inv.returnCall (h : Inv s) (c : CallResult) : Inv (s.returnCall c) := { h with }

/-- After a response the sequencer rests (10_state.md R23). -/
theorem Inv.respond (h : Inv s) (r : Response) : Inv (s.respond r) :=
  { h with seqIdle := fun _ => rfl, seqBusy := nofun }

theorem Inv.withPixels (h : Inv s) {pix : Vector Pixel 8} (draws : Nat) (hp : BrtKeptOrPacked s.pix pix) :
    Inv { s with pix := pix, draws := draws } := { h with marker := hp.marker h.marker }

theorem Inv.openChip (h : Inv s) (path : String) : Inv (s.openChip path).1 := by
  rw [State.openChip_state]
  exact { h with counts := ⟨h.counts.1.trans (Nat.le_succ _), h.counts.2⟩ }

theorem Inv.requestLine (h : Inv s) (n : Nat) (v : Bit) (label : String) : Inv (s.requestLine n v label).1 := by
  obtain ⟨htrace, hhist⟩ := h.counts
  obtain ⟨-, ht⟩ | ⟨-, -, hs, ht, hlen⟩ := s.requestLine_cases n v label
  · rw [ht]
    exact { h with counts := ⟨htrace.trans (Nat.le_succ _), hhist⟩ }
  · rw [ht]
    refine { h with
      claimedRising := insertClaim_keeps_wf n _ h.claimedRising
      lineRising := setLevel_keeps_wf n v _ h.lineRising
      counts := ⟨htrace.trans (Nat.le_succ _), ?_⟩ }
    rcases hlen with rfl | hlen
    · exact hhist
    · exact hlen.le.trans (Nat.le_add_left ..)

theorem Inv.releaseLine (h : Inv s) (n : Nat) : Inv (s.releaseLine n) :=
  { h with
    claimedRising := removeClaim_keeps_wf n _ h.claimedRising
    lineRising := removeLevel_keeps_wf n _ h.lineRising }

/-- One event, one call, and at most one pair more (44_gpio_sim.md R163, R165). -/
theorem Inv.setValue (h : Inv s) (n : Nat) (l : Line) (v : Bit) : Inv (s.setValue n l v).1 :=
  { h with
    lineRising := setLevel_keeps_wf n _ _ h.lineRising
    counts := by
      obtain ⟨htrace, hhist⟩ := h.counts
      rw [State.setValue_trace, State.setValue_hist, State.setValue_calls]
      split <;> simp <;> omega }

/-! ### The transmission -/

theorem Inv.txAccept (h : Inv s) (hl : s.life = .live) : Inv s.txAccept :=
  { h with seqIdle := nofun, seqBusy := fun _ => ⟨show 0 < 906 by decide, hl⟩ }

/-- SEQ goes on below 906, or the transmission ends and SEQ rests (42_transmit.md R124). -/
theorem Inv.txStep (h : Inv s) (hb : s.txBusy = true) : Inv s.txStep := by
  obtain ⟨hlt, hlive⟩ := h.seqBusy hb
  have hw : Inv (s.lineWrite (ev s.pix s.seq).1 (ev s.pix s.seq).2).1 := h.setValue ..
  cases hf : s.fail.fails s.calls with
  | true => rw [State.txStep_abort hf]; exact hw.respond _
  | false =>
    by_cases hn : s.seq + 1 = 906
    · rw [State.txStep_last hf hn]; exact hw.respond _
    · rw [State.txStep_advance hf hn]
      exact { hw with
        seqIdle := fun hidle => absurd (hb.symm.trans hidle) nofun
        seqBusy := fun _ => ⟨show s.seq + 1 < 906 by omega, hlive⟩ }

theorem Inv.txRun (h : Inv s) (k : Nat) : Inv (s.txRun k) := by
  induction k generalizing s with
  | zero => exact h
  | succ k ih =>
    cases hb : s.txBusy with
    | false => rw [State.txRun_idle _ hb]; exact h
    | true => rw [State.txRun_busy _ hb]; exact ih (h.txStep hb)

theorem Inv.transmit (h : Inv s) (hl : s.life = .live) : Inv s.transmit := (h.txAccept hl).txRun _

/-! ### Construction and teardown -/

theorem Inv.constructOpen (h : Inv s) : Inv s.constructOpen := h.openChip _

theorem Inv.constructData (h : Inv s) : Inv s.constructData.1 := h.constructOpen.requestLine ..

theorem Inv.constructClk (h : Inv s) : Inv s.constructClk.1 := h.constructData.requestLine ..

theorem ConstructAborts.inv {u : State} (hc : ConstructAborts s u) (h : Inv s) : Inv u := by
  cases hc with
  | chip => exact h.constructOpen
  | data => exact h.constructData
  | clk => exact h.constructClk.releaseLine _

/-- A failed construction leaves no handle (10_state.md R30). -/
theorem Inv.failConstruct (h : Inv s) (hl : s.life = .void) (e : Response) : Inv (s.failConstruct e) :=
  have hnone : Inv { s with hdata := none, hclk := none } :=
    { h with handlesLive := fun hlive => by simp [hl] at hlive, handlesNot := fun _ => ⟨rfl, rfl⟩ }
  hnone.respond e

theorem Inv.becomeLive (h : Inv s) (cot : Bit) : Inv (s.becomeLive cot) :=
  { h with
    marker := BrtKeptOrPacked.marker (.ofFn fun _ => ⟨s.cfg.defaultLevel5, rfl⟩) h.marker
    seqIdle := fun _ => rfl
    seqBusy := nofun
    handlesLive := fun _ => ⟨rfl, rfl⟩
    handlesNot := fun hn => absurd rfl hn }

theorem Inv.clearAll (h : Inv s) : Inv s.clearAll := h.withPixels s.draws (.ofFn fun _ => ⟨_, rfl⟩)

theorem Inv.blank (h : Inv s) (hl : s.life = .live) : Inv s.blank := h.clearAll.transmit hl

theorem Inv.becomeDead (h : Inv s) : Inv s.becomeDead :=
  { (h.releaseLine (s.lineNo .data)).releaseLine (s.lineNo .clk) with
    seqIdle := fun _ => rfl
    seqBusy := nofun
    handlesLive := nofun
    handlesNot := fun _ => ⟨rfl, rfl⟩ }

end KeepsInv

theorem Executed.inv {i : Instr} {s t : State} (he : Executed s i t) (h : Inv s) : Inv t := by
  cases he with
  | constructFails hb hv hu => exact (hu.inv h).failConstruct (hu.sameDriver.life.trans hv) _
  | constructs hb hv hd hc => exact h.constructClk.becomeLive _
  | teardown hu =>
    split
    · exact (h.blank hu.live).becomeDead
    · exact h.becomeDead
  | transmit hu => exact h.transmit hu.live
  | pixels hu hp => exact (h.withPixels _ hp).respond _
  | serbytes => exact h.answer _
  | openchip => exact (h.openChip _).returnCall _
  | reqline => exact (h.requestLine ..).returnCall _
  | setval => exact (h.setValue ..).returnCall _
  | release => exact (h.releaseLine _).returnCall _
  | frame => exact h.txRun _

theorem step_keeps_inv {s t : State} (h : Inv s) (hs : step s = .next t) : Inv t := by
  obtain ⟨u, i, -, -, he⟩ | ⟨-, ⟨hb, rfl⟩ | ⟨-, -, rfl⟩ | ⟨-, q, rest, i, -, -, ⟨-, -, hl, rfl⟩ | he⟩⟩ :=
    step_next_cases hs
  · exact (exec_executed he).inv (h.presentUnit u)
  · exact h.txStep hb
  · exact h
  · exact (h.present q rest).txAccept hl
  · exact (exec_executed he).inv (h.present q rest)

/-! ## Each operation of DRV's keeps `Owned` -/

theorem State.held_iff (s : State) (n : Nat) :
    s.held n = true ↔ n ∈ s.claimed ∧ (levelAt n s.line).isSome = true := by simp [State.held]

/-- A level set at a line: that line has one, and every line that had one. -/
theorem levelAt_setLevel_isSome (m n : Nat) (v : Bit) (line : List (Nat × Bit)) :
    (levelAt m (setLevel n v line)).isSome = true ↔ m = n ∨ (levelAt m line).isSome = true := by
  by_cases hmn : m = n
  · subst hmn; simp
  · simp [levelAt_setLevel_ne _ _ hmn, hmn]

theorem levelAt_removeLevel_isSome (m n : Nat) (line : List (Nat × Bit)) :
    (levelAt m (removeLevel n line)).isSome = true ↔ m ≠ n ∧ (levelAt m line).isSome = true := by
  by_cases hmn : m = n
  · subst hmn; simp
  · simp [levelAt_removeLevel_ne _ hmn, hmn]

section KeepsOwned
variable {s : State}

theorem Owned.present (h : Owned s) (q : Request) (rest : List Request) : Owned (s.present q rest) := { h with }

theorem Owned.respond (h : Owned s) (r : Response) : Owned (s.respond r) := { h with }

theorem Owned.txAccept (h : Owned s) : Owned s.txAccept := { h with }

theorem Owned.withPixels (h : Owned s) (pix : Vector Pixel 8) (draws : Nat) :
    Owned { s with pix := pix, draws := draws } := { h with }

theorem Owned.openChip (h : Owned s) (path : String) : Owned (s.openChip path).1 := by
  rw [State.openChip_state]; exact { h with }

/-- A request keeps what is held, and the line requested has a valid number (44_gpio_sim.md R158, R160). -/
theorem Owned.requestLine (h : Owned s) (n : Nat) (v : Bit) (label : String) :
    Owned (s.requestLine n v label).1 := by
  obtain ⟨-, ht⟩ | ⟨-, hr, hs, ht, -⟩ := s.requestLine_cases n v label
  · rw [ht]; exact { h with }
  · rw [ht]
    refine ⟨h.unitPort, fun m hm => ?_, fun hl => ?_⟩
    · rcases (levelAt_setLevel_isSome m n v s.line).1 hm with rfl | hm
      · exact ⟨by simp, hr.valid⟩
      · exact ⟨by simp [(h.levelClaimed m hm).1], (h.levelClaimed m hm).2⟩
    · obtain ⟨hne, hd, hc⟩ := h.linesHeld hl
      rw [State.held_iff] at hd hc
      exact ⟨hne, by simp [State.held_iff, levelAt_setLevel_isSome, hd],
        by simp [State.held_iff, levelAt_setLevel_isSome, hc]⟩

/-- Out of LIVE DRV needs no line, and a released line keeps no level (44_gpio_sim.md R164). -/
theorem Owned.releaseLine (h : Owned s) (hl : s.life ≠ .live) (n : Nat) : Owned (s.releaseLine n) where
  unitPort := h.unitPort
  levelClaimed m hm := by
    obtain ⟨hmn, hm⟩ := (levelAt_removeLevel_isSome m n s.line).1 hm
    exact ⟨by simp [hmn, (h.levelClaimed m hm).1], (h.levelClaimed m hm).2⟩
  linesHeld hlive := absurd hlive hl

/-- A write to a held line leaves the same lines with a level. -/
theorem Owned.setValue (h : Owned s) {n : Nat} (hn : s.held n = true) (l : Line) (v : Bit) :
    Owned (s.setValue n l v).1 := by
  have hsome (m : Nat) := s.setValue_levelAt_isSome n l v m ((s.held_iff n).1 hn).2
  have hheld (m : Nat) : (s.setValue n l v).1.held m = s.held m := by
    rw [State.held, hsome m, State.setValue_claimed, ← State.held]
  refine ⟨h.unitPort, fun m hm => h.levelClaimed m (hsome m ▸ hm), fun hl => ?_⟩
  rw [hheld, hheld]
  exact h.linesHeld hl

/-! ### The transmission -/

/-- In LIVE the lines DRV writes are the two it holds (10_state.md R19). -/
theorem Owned.held_lineNo (h : Owned s) (hi : Inv s) (hl : s.life = .live) (l : Line) :
    s.held (s.lineNo l) = true := by
  obtain ⟨hdata, hclk⟩ := hi.handlesLive hl
  obtain ⟨-, hd, hc⟩ := h.linesHeld hl
  cases l with
  | data => simpa [State.lineNo, hdata] using hd
  | clk => simpa [State.lineNo, hclk] using hc

theorem Owned.txStep (h : Owned s) (hi : Inv s) (hb : s.txBusy = true) : Owned s.txStep := by
  have hw : Owned (s.lineWrite (ev s.pix s.seq).1 (ev s.pix s.seq).2).1 :=
    h.setValue (h.held_lineNo hi (hi.seqBusy hb).2 _) ..
  obtain ⟨n, b, o, ht, -⟩ := State.txStep_cases s
  rw [ht]
  exact { hw with }

theorem Owned.txRun (h : Owned s) (hi : Inv s) (k : Nat) : Owned (s.txRun k) := by
  induction k generalizing s with
  | zero => exact h
  | succ k ih =>
    cases hb : s.txBusy with
    | false => rw [State.txRun_idle _ hb]; exact h
    | true => rw [State.txRun_busy _ hb]; exact ih (h.txStep hi hb) (hi.txStep hb)

theorem Owned.transmit (h : Owned s) (hi : Inv s) (hl : s.life = .live) : Owned s.transmit :=
  h.txAccept.txRun (hi.txAccept hl) _

/-! ### Construction and teardown -/

theorem Owned.constructOpen (h : Owned s) : Owned s.constructOpen := h.openChip _

theorem Owned.constructData (h : Owned s) : Owned s.constructData.1 := h.constructOpen.requestLine ..

theorem Owned.constructClk (h : Owned s) : Owned s.constructClk.1 := h.constructData.requestLine ..

theorem Owned.failConstruct (h : Owned s) (e : Response) : Owned (s.failConstruct e) := { h with }

theorem ConstructAborts.owned {u : State} (hc : ConstructAborts s u) (hv : s.life = .void) (h : Owned s) :
    Owned u := by
  cases hc with
  | chip => exact h.constructOpen
  | data => exact h.constructData
  | clk => exact h.constructClk.releaseLine (by simp [s.constructClk_sameDriver.life, hv]) _

/-- After both requests the two lines are different and held (43_lifecycle.md R141, 44_gpio_sim.md R160). -/
theorem State.constructClk_held (hd : s.constructData.2 = true) (hc : s.constructClk.2 = true) :
    s.cfg.dataLine ≠ s.cfg.clkLine ∧ s.constructClk.1.held s.cfg.dataLine = true ∧
      s.constructClk.1.held s.cfg.clkLine = true := by
  obtain ⟨hcd, hld⟩ : s.constructData.1.claimed = _ ∧ s.constructData.1.line = _ := State.requestLine_claims hd
  obtain ⟨hcc, hlc⟩ : s.constructClk.1.claimed = _ ∧ s.constructClk.1.line = _ := State.requestLine_claims hc
  have hfree : s.cfg.clkLine ∉ s.constructData.1.claimed := ((State.requestLine_ok_iff ..).1 hc).1.free
  refine ⟨fun heq => hfree (by simp [hcd, heq]), ?_, ?_⟩ <;>
    simp [State.held_iff, hcc, hlc, hcd, hld, levelAt_setLevel_isSome]

theorem Owned.becomeLive (h : Owned s) (cot : Bit) (hheld : s.cfg.dataLine ≠ s.cfg.clkLine ∧
    s.held s.cfg.dataLine = true ∧ s.held s.cfg.clkLine = true) : Owned (s.becomeLive cot) :=
  { h with linesHeld := fun _ => hheld }

theorem Owned.clearAll (h : Owned s) : Owned s.clearAll := h.withPixels _ s.draws

theorem Owned.blank (h : Owned s) (hi : Inv s) (hl : s.life = .live) : Owned s.blank :=
  h.clearAll.transmit hi.clearAll hl

theorem Owned.becomeDead (h : Owned s) : Owned s.becomeDead :=
  have hdead : Owned { s with hdata := none, hclk := none, life := .dead } := { h with linesHeld := nofun }
  ((hdead.releaseLine nofun (s.lineNo .data)).releaseLine nofun (s.lineNo .clk)).respond _

end KeepsOwned

theorem Executed.owned {i : Instr} {s t : State} (he : Executed s i t) (hf : i.format = .d) (hi : Inv s)
    (h : Owned s) : Owned t := by
  cases he with
  | constructFails hb hv hu => exact (hu.owned hv h).failConstruct _
  | constructs hb hv hd hc =>
    exact h.constructClk.becomeLive _ (by simpa only [State.constructClk_cfg] using State.constructClk_held hd hc)
  | teardown hu =>
    split
    · exact (h.blank hi hu.live).becomeDead
    · exact h.becomeDead
  | transmit hu => exact h.transmit hi hu.live
  | pixels hu hp => exact (h.withPixels _ _).respond _
  | serbytes | openchip | reqline | setval | release => cases hf
  | frame hw => exact absurd (hw.symm.trans hf) (by decide)

theorem step_keeps_owned {s t : State} (hi : Inv s) (h : Owned s) (hs : step s = .next t) : Owned t := by
  obtain ⟨u, i, hu, -, -⟩ | ⟨-, ⟨hb, rfl⟩ | ⟨-, -, rfl⟩ | ⟨-, q, rest, i, -, hd, ⟨-, -, hl, rfl⟩ | he⟩⟩ :=
    step_next_cases hs
  · exact absurd (h.unitPort.symm.trans hu) nofun
  · exact h.txStep hi hb
  · exact h
  · exact (h.present q rest).txAccept
  · exact (exec_executed he).owned (decodeD_format hd) (hi.present q rest) (h.present q rest)

/-- Settles O58: every way a step goes on is made of operations that keep `Inv`, and where no word of a
unit stands on its port, of operations that keep `Owned`. -/
theorem stepKeepsInvariant : Obligations.StepKeepsInvariant :=
  ⟨fun _ _ => step_keeps_inv, fun _ _ => step_keeps_owned⟩

/-! ## The life of a Driver (10_state.md R18, R20) -/

/-- LIFE and COT stay, but for a successful CONSTRUCT and a TEARDOWN. -/
inductive DriverChange (s : State) (i : Instr) (t : State) : Prop
  | unchanged (life : t.life = s.life) (cot : t.cot = s.cot)
  | constructed {cot : Bit} (instr : i = .construct cot) (void : s.life = .void) (live : t.life = .live)
    (loads : t.cot = cot) (out : t.out = .response (.ok .none))
  | tornDown (instr : i = .teardown) (live : s.life = .live) (dead : t.life = .dead) (cot : t.cot = s.cot)
    (out : t.out = .response (.ok .none))

theorem DriverChange.of_sameDriver {s t : State} {i : Instr} (h : SameDriver s t) : DriverChange s i t :=
  .unchanged h.life h.cot

theorem State.blank_cot (s : State) : s.blank.cot = s.cot := (State.txRun_frame _ _).driver.cot

theorem Executed.driverChange {i : Instr} {s t : State} (he : Executed s i t) : DriverChange s i t := by
  cases he with
  | constructFails hb hv hu => exact .unchanged hu.sameDriver.life hu.sameDriver.cot
  | constructs hb hv hd hc => exact .constructed rfl hv rfl rfl rfl
  | teardown hu =>
    refine .tornDown rfl hu.live rfl ?_ rfl
    split
    · exact s.blank_cot
    · rfl
  | transmit hu => exact .unchanged (State.txRun_frame _ _).driver.life (State.txRun_frame _ _).driver.cot
  | pixels | serbytes | setval | release => exact .unchanged rfl rfl
  | openchip => exact .of_sameDriver { s.openChip_sameDriver s.cfg.chipPath with }
  | reqline => exact .of_sameDriver { s.requestLine_sameDriver .. with }
  | frame => exact .of_sameDriver (State.txRun_frame _ _).driver

/-- Taking a request off the script changes neither LIFE nor COT. -/
theorem DriverChange.of_present {s t : State} {i : Instr} {q : Request} {rest : List Request}
    (h : DriverChange (s.present q rest) i t) : DriverChange s i t := by
  cases h with
  | unchanged hl hc => exact .unchanged hl hc
  | constructed hi hv hl hc ho => exact .constructed hi hv hl hc ho
  | tornDown hi hv hl hc ho => exact .tornDown hi hv hl hc ho

/-- A step changes LIFE or COT only by a command of the host: the units' words are of other formats. -/
theorem step_life_cot {s t : State} (hs : step s = .next t) :
    t.life = s.life ∧ t.cot = s.cot ∨
    ∃ q rest i, s.script = q :: rest ∧ decode (.d q.word) = .ok i ∧ DriverChange s i t := by
  obtain ⟨u, i, -, hd, he⟩ | ⟨-, ⟨hb, rfl⟩ | ⟨-, -, rfl⟩ | ⟨-, q, rest, i, hq, hd, ⟨-, -, hl, rfl⟩ | he⟩⟩ :=
    step_next_cases hs
  · have hf := unitWord_format hd
    cases (exec_executed he).driverChange with
    | unchanged hl hc => exact .inl ⟨hl, hc⟩
    | constructed hi => exact absurd (hi ▸ rfl) hf
    | tornDown hi => exact absurd (hi ▸ rfl) hf
  · exact .inl ⟨s.txStep_frame.driver.life, s.txStep_frame.driver.cot⟩
  · exact .inl ⟨rfl, rfl⟩
  · exact .inl ⟨rfl, rfl⟩
  · exact .inr ⟨q, rest, i, hq, hd, (exec_executed he).driverChange.of_present⟩

/-- Settles O50: LIFE changes only where `DriverChange` says a CONSTRUCT or a TEARDOWN has been executed. -/
theorem lifecycleTransitions : Obligations.LifecycleTransitions := by
  intro s t hs
  obtain ⟨hl, -⟩ | ⟨q, rest, i, hq, hd, hc⟩ := step_life_cot hs
  · exact .inl hl
  cases hc with
  | unchanged hl => exact .inl hl
  | constructed hi hv hl _ ho => exact .inr ⟨q, rest, hq, ho, .inl ⟨hv, hl, _, hi ▸ hd⟩⟩
  | tornDown hi hv hl _ ho => exact .inr ⟨q, rest, hq, ho, .inr ⟨hv, hl, hi ▸ hd⟩⟩

/-- Settles O51: of the changes of a Driver only a successful CONSTRUCT goes from VOID to LIVE, and it alone
writes COT. -/
theorem cotWrittenOnlyByConstruct : Obligations.CotWrittenOnlyByConstruct := by
  intro s t hs
  have hsame (hl : t.life = s.life) (hc : t.cot = s.cot) {P : Prop} :
      (t.cot = s.cot ∨ s.life = .void ∧ t.life = .live) ∧ (s.life = .void → t.life = .live → P) :=
    ⟨.inl hc, fun hv hlive => by simp [hl, hv] at hlive⟩
  obtain ⟨hl, hc⟩ | ⟨q, rest, i, hq, hd, hc⟩ := step_life_cot hs
  · exact hsame hl hc
  cases hc with
  | unchanged hl hc => exact hsame hl hc
  | constructed hi hv hl hcot => exact ⟨.inr ⟨hv, hl⟩, fun _ _ => ⟨q, rest, _, hq, hi ▸ hd, hcot⟩⟩
  | tornDown _ hlive _ hcot => exact ⟨.inl hcot, fun hv => by simp [hlive] at hv⟩

/-! ## The reset: CONSTRUCT on a fresh GPIOSIM (10_state.md R29, 43_lifecycle.md R141, R144) -/

section Construction
variable {s : State}

/-- HIST does not begin while the clock line is unclaimed (44_gpio_sim.md R165). -/
theorem State.startHist_of_clk_free (h : s.cfg.clkLine ∉ s.claimed) : s.startHist = s := by
  simp [State.startHist, State.held_iff, h]

theorem State.startHist_of_held (hne : s.cfg.dataLine ≠ s.cfg.clkLine) (hd : s.held s.cfg.dataLine = true)
    (hc : s.held s.cfg.clkLine = true) :
    s.startHist = { s with hist := if s.hist = [] then [s.levels] else s.hist } := by
  by_cases hh : s.hist = [] <;> simp [State.startHist, hh, hne, hd, hc]

theorem State.requestLine_of_requestable {n : Nat} (hr : s.Requestable n) (hf : s.fail.fails s.calls = false)
    (v : Bit) (label : String) :
    s.requestLine n v label = (({ s with
      calls := s.calls + 1, claimed := insertClaim n s.claimed, line := setLevel n v s.line } : State).startHist,
      true) :=
  have hok := (s.requestLine_ok_iff n v label).2 ⟨hr, hf⟩
  Prod.ext (State.requestLine_success hok) hok

/-- The chip open and the data line claimed at level 0. -/
def State.dataClaimed (s : State) : State :=
  { s with
    calls := s.calls + 2
    chipOpen := true
    claimed := insertClaim s.cfg.dataLine s.claimed
    line := setLevel s.cfg.dataLine false s.line }

/-- The chip open and both lines claimed at level 0, HIST begun. -/
def State.linesClaimed (s : State) : State :=
  { s.dataClaimed with
    calls := s.calls + 3
    claimed := insertClaim s.cfg.clkLine s.dataClaimed.claimed
    line := setLevel s.cfg.clkLine false s.dataClaimed.line
    hist := if s.hist = [] then [(false, false)] else s.hist }

/-- The two lines are different, valid and free, and no call fails: what R208 asks of a construction. -/
structure State.Constructible (s : State) : Prop where
  distinct : s.cfg.dataLine ≠ s.cfg.clkLine
  dataValid : s.cfg.dataLine < s.cfg.numLines
  clkValid : s.cfg.clkLine < s.cfg.numLines
  dataFree : s.cfg.dataLine ∉ s.claimed
  clkFree : s.cfg.clkLine ∉ s.claimed
  noFail : s.NoFail 3

theorem State.Constructible.constructOpen_eq (h : s.Constructible) :
    s.constructOpen = { s with calls := s.calls + 1, chipOpen := true } := by
  have hf : s.fail.fails s.calls = false := h.noFail 0 (by decide)
  rw [State.constructOpen, State.openChip_state, hf]; rfl

theorem State.Constructible.constructData_eq (h : s.Constructible) : s.constructData = (s.dataClaimed, true) := by
  have hreq := State.requestLine_of_requestable (s := { s with calls := s.calls + 1, chipOpen := true })
    ⟨rfl, h.dataValid, h.dataFree⟩ (h.noFail 1 (by decide)) Config.initData s.cfg.label
  rw [State.constructData, h.constructOpen_eq, hreq,
    State.startHist_of_clk_free (by simp [h.distinct.symm, h.clkFree])]
  rfl

theorem State.Constructible.constructClk_eq (h : s.Constructible) : s.constructClk = (s.linesClaimed, true) := by
  have hreq := State.requestLine_of_requestable (s := s.dataClaimed)
    ⟨rfl, h.clkValid, by simp [State.dataClaimed, h.distinct.symm, h.clkFree]⟩ (h.noFail 2 (by decide))
    Config.initClk s.cfg.label
  rw [State.constructClk, h.constructData_eq, hreq, State.startHist_of_held (by exact h.distinct)
    (by simp [State.held_iff, State.dataClaimed, levelAt_setLevel_isSome])
    (by simp [State.held_iff, State.dataClaimed])]
  simp [State.linesClaimed, State.dataClaimed, State.levels, State.levelOf, levelAt_setLevel_ne _ _ h.distinct]

/-- A CONSTRUCT whose calls all succeed (43_lifecycle.md R141). -/
theorem execConstruct_of_constructible (hb : s.txBusy = false) (hv : s.life = .void) (h : s.Constructible)
    (cot : Bit) : exec (.construct cot) s = .next (s.linesClaimed.becomeLive cot) := by
  have hopen : s.fail.fails s.calls = false := h.noFail 0 (by decide)
  change execConstruct cot s = _
  rw [execConstruct_eq, State.whenVoid_of_void hb hv, h.constructData_eq, h.constructClk_eq]
  simp [hopen]

end Construction

theorem defaultPixel_eq (cfg : Config) :
    defaultPixel cfg = ⟨0, 0, 0, 0xE0 ||| BitVec.ofNat 8 cfg.defaultLevel5.toNat⟩ := by
  simp [defaultPixel, BitVec.ofNat_toNat]

theorem powerOn_constructible {cfg : Config} {fail : FailOracle} (hne : cfg.dataLine ≠ cfg.clkLine)
    (hd : cfg.dataLine < cfg.numLines) (hc : cfg.clkLine < cfg.numLines)
    (hf : (State.powerOn cfg fail).NoFail 3) : (State.powerOn cfg fail).Constructible :=
  ⟨hne, hd, hc, List.not_mem_nil, List.not_mem_nil, hf⟩

/-- Settles O43: the values before CONSTRUCT are those `State.powerOn` writes out, and CONSTRUCT on it claims
the two lines and becomes LIVE. -/
theorem constructLeavesResetValues : Obligations.ConstructLeavesResetValues := by
  intro cfg fail cot
  constructor
  · rintro v rfl
    exact ⟨rfl, rfl, rfl, rfl, rfl, rfl, rfl, fun _ => rfl, rfl, rfl, rfl⟩
  · intro hne hd hc hf
    have hexec := execConstruct_of_constructible rfl rfl (powerOn_constructible hne hd hc hf) cot
    refine ⟨_, hexec, fun i => ?_, rfl, rfl, rfl, rfl, rfl, rfl, rfl, fun n => ?_, ?_, ?_,
      rfl, rfl, rfl, rfl⟩
    · exact (Vector.getElem_ofFn i.isLt).trans (defaultPixel_eq cfg)
    · change n ∈ insertClaim cfg.clkLine (insertClaim cfg.dataLine []) ↔ _
      simp [or_comm]
    · exact (levelAt_setLevel_ne _ _ hne).trans (levelAt_setLevel_self ..)
    · exact levelAt_setLevel_self ..

/-! ## The invariants at the start -/

theorem powerOn_inv (cfg : Config) (fail : FailOracle) : Inv (State.powerOn cfg fail) where
  marker i := by
    have hpix : (State.powerOn cfg fail).pix[i] = defaultPixel cfg := Vector.getElem_replicate i.isLt
    rw [hpix]; exact packBrt_and_marker cfg.defaultLevel5
  seqIdle _ := rfl
  seqBusy := nofun
  claimedRising := rfl
  lineRising := rfl
  handlesLive := nofun
  handlesNot _ := ⟨rfl, rfl⟩
  counts := ⟨le_rfl, Nat.zero_le _⟩

theorem powerOn_owned (cfg : Config) (fail : FailOracle) : Owned (State.powerOn cfg fail) :=
  ⟨rfl, nofun, nofun⟩

theorem State.NoFail.of_never {s : State} (h : s.fail = FailOracle.never) (n : Nat) : s.NoFail n := fun _ _ => by
  rw [h]; rfl

/-- `State.reset` is what CONSTRUCT 1 makes of the state before it (70_reset_and_hazards.md R205). -/
theorem execConstruct_powerOn_reset :
    exec (.construct true) (State.powerOn Config.illustration FailOracle.never) = .next State.reset :=
  (execConstruct_of_constructible rfl rfl
    (powerOn_constructible (by decide) (by decide) (by decide) (.of_never rfl 3)) true).trans
    (by simp [State.becomeLive]; rfl)

/-- Settles O57: both hold before any CONSTRUCT, and CONSTRUCT, which is the reset, keeps them. -/
theorem resetMeetsInvariant : Obligations.ResetMeetsInvariant :=
  have hreset := exec_executed execConstruct_powerOn_reset
  have hinv := powerOn_inv Config.illustration FailOracle.never
  ⟨hreset.inv hinv, hreset.owned rfl hinv (powerOn_owned _ _), fun cfg fail =>
    ⟨powerOn_inv cfg fail, powerOn_owned cfg fail⟩⟩

end Sys2Proof.Machine

/-! # Who is kept out, and who writes (20_memory.md R42, R52, R54; 10_state.md R17)

Layers: a busy block and the commands; what CONSTRUCT leaves of TRACE; which commands write TRACE, LINE and
the pixels; the same of a step; the obligations. -/

namespace Sys2Proof.Machine

/-! ## A busy block takes no command (20_memory.md R52) -/

/-- But for SETVAL, SERBYTES and the frames, the transmission's own, every instruction asks first whether the
block is idle. -/
theorem exec_of_busy {i : Instr} {s : State} (hb : s.txBusy = true) (hw : i.format ≠ .w) (hs : i ≠ .serbytes)
    (hv : ∀ l v, i ≠ .setval l v) : exec i s = .refused .busy := by
  cases i with
  | sof | ledframe | eof => exact absurd rfl hw
  | serbytes => exact absurd rfl hs
  | setval l v => exact absurd rfl (hv l v)
  | _ => exact State.whenIdle_of_busy hb

/-- Settles O9: the check for an idle block refuses the instructions, and the step of a busy one is the
sequencer's, which leaves the script as it is. -/
theorem busyTakesNoCommand : Obligations.BusyTakesNoCommand :=
  ⟨fun _ _ => exec_of_busy, fun s hu hb => ⟨s.txStep, step_of_busy hu hb, s.txStep_frame.env.script⟩⟩

/-! ## CONSTRUCT writes no event: its calls are OPEN and REQLINE (44_gpio_sim.md R157, R158, R165) -/

@[simp] theorem State.openChip_trace (s : State) (path : String) : (s.openChip path).1.trace = s.trace := by
  rw [State.openChip_state]

@[simp] theorem State.requestLine_trace (s : State) (n : Nat) (v : Bit) (label : String) :
    (s.requestLine n v label).1.trace = s.trace := by
  obtain ⟨-, h⟩ | ⟨-, -, hs, h, -⟩ := s.requestLine_cases n v label <;> rw [h]

theorem State.constructOpen_trace (s : State) : s.constructOpen.trace = s.trace := s.openChip_trace _

theorem State.constructData_trace (s : State) : s.constructData.1.trace = s.trace :=
  (State.requestLine_trace ..).trans s.constructOpen_trace

theorem State.constructClk_trace (s : State) : s.constructClk.1.trace = s.trace :=
  (State.requestLine_trace ..).trans s.constructData_trace

theorem ConstructAborts.trace {s u : State} (h : ConstructAborts s u) : u.trace = s.trace := by
  cases h with
  | chip => exact s.constructOpen_trace
  | data => exact s.constructData_trace
  | clk => exact s.constructClk_trace

/-! ## Which command of the host writes what -/

/-- TRACE is written only by TRANSMIT and by TEARDOWN with COT = 1 (20_memory.md R54). -/
theorem Executed.trace_kept_or {i : Instr} {s t : State} (he : Executed s i t) (hf : i.format = .d) :
    t.trace = s.trace ∨ i = .transmit ∨ i = .teardown ∧ s.cot = true := by
  cases he with
  | constructFails _ _ hu => exact .inl hu.trace
  | constructs => exact .inl s.constructClk_trace
  | teardown =>
    cases hc : s.cot with
    | false => exact .inl rfl
    | true => exact .inr (.inr ⟨rfl, rfl⟩)
  | transmit => exact .inr (.inl rfl)
  | pixels => exact .inl rfl
  | serbytes | openchip | reqline | setval | release => cases hf
  | frame hw => exact absurd (hw.symm.trans hf) (by decide)

/-- LINE is written only by TRANSMIT, TEARDOWN and CONSTRUCT (20_memory.md R42). -/
theorem Executed.line_kept_or {i : Instr} {s t : State} (he : Executed s i t) (hf : i.format = .d) :
    t.line = s.line ∨ i = .transmit ∨ i = .teardown ∨ ∃ cot, i = .construct cot := by
  cases he with
  | constructFails | constructs => exact .inr (.inr (.inr ⟨_, rfl⟩))
  | teardown => exact .inr (.inr (.inl rfl))
  | transmit => exact .inr (.inl rfl)
  | pixels => exact .inl rfl
  | serbytes | openchip | reqline | setval | release => cases hf
  | frame hw => exact absurd (hw.symm.trans hf) (by decide)

/-- The driver operations that write pixels (10_state.md R17). -/
def WritesPixels (i : Instr) : Prop :=
  i = .clrall ∨ i = .teardown ∨ (∃ cot, i = .construct cot) ∨ (∃ r g b, i = .setall r g b) ∨
    ∃ index r g b, i = .setpix index r g b

/-- The other two, TRANSMIT and GETPIX, leave the pixels as they are (41_driver_ops.md R101, 42_transmit.md R115). -/
theorem exec_pix_kept_or {i : Instr} {s t : State} (hf : i.format = .d) (h : exec i s = .next t) :
    t.pix = s.pix ∨ WritesPixels i := by
  cases i with
  | transmit => obtain ⟨-, h⟩ := State.whenLive_next h; cases h; exact .inl (State.txRun_frame _ _).pix
  | getpix index =>
    obtain ⟨-, h⟩ := State.whenLive_next h
    split at h <;> cases h <;> exact .inl rfl
  | clrall => exact .inr (.inl rfl)
  | teardown => exact .inr (.inr (.inl rfl))
  | construct cot => exact .inr (.inr (.inr (.inl ⟨cot, rfl⟩)))
  | setall r g b => exact .inr (.inr (.inr (.inr (.inl ⟨r, g, b, rfl⟩))))
  | setpix index r g b => exact .inr (.inr (.inr (.inr (.inr ⟨index, r, g, b, rfl⟩))))
  | _ => cases hf

/-- What of TRACE, LINE and the pixels the command `i` can have changed on the way from `s` to `t`. -/
structure CommandWrites (s : State) (i : Instr) (t : State) : Prop where
  trace : t.trace = s.trace ∨ i = .transmit ∨ i = .teardown ∧ s.cot = true
  line : t.line = s.line ∨ i = .transmit ∨ i = .teardown ∨ ∃ cot, i = .construct cot
  pix : t.pix = s.pix ∨ WritesPixels i

theorem exec_commandWrites {i : Instr} {s t : State} (hf : i.format = .d) (h : exec i s = .next t) :
    CommandWrites s i t :=
  ⟨(exec_executed h).trace_kept_or hf, (exec_executed h).line_kept_or hf, exec_pix_kept_or hf h⟩

/-- Taking a request off the script writes none of the three. -/
theorem CommandWrites.of_present {s t : State} {i : Instr} {q : Request} {rest : List Request}
    (h : CommandWrites (s.present q rest) i t) : CommandWrites s i t :=
  ⟨h.trace, h.line, h.pix⟩

/-- A step with no word on the unit port: a write of the running transmission, waiting, or a command of the
host that writes what it may. -/
theorem step_writes {s t : State} (hu : s.unitPort = none) (hs : step s = .next t) :
    s.txBusy = true ∧ t.pix = s.pix ∨ t = s ∨
      s.txBusy = false ∧ ∃ q rest i, s.script = q :: rest ∧ decode (.d q.word) = .ok i ∧ CommandWrites s i t := by
  obtain ⟨u, i, hp, -, -⟩ | ⟨-, ⟨hb, rfl⟩ | ⟨-, -, rfl⟩ | ⟨hb, q, rest, i, hq, hd, ⟨-, -, -, rfl⟩ | he⟩⟩ :=
    step_next_cases hs
  · exact absurd (hu.symm.trans hp) nofun
  · exact .inl ⟨hb, s.txStep_frame.pix⟩
  · exact .inr (.inl rfl)
  · exact .inr (.inr ⟨hb, q, rest, i, hq, hd, .inl rfl, .inl rfl, .inl rfl⟩)
  · exact .inr (.inr ⟨hb, q, rest, i, hq, hd, (exec_commandWrites (decodeD_format hd) he).of_present⟩)

/-- Settles O27: a step that is no write of a running transmission changes what its command may write, and
nothing where it waits. -/
theorem onlyTransmitAndTeardownWriteLines : Obligations.OnlyTransmitAndTeardownWriteLines := by
  refine ⟨fun i s t hf h hne => ((exec_executed h).trace_kept_or hf).resolve_left hne, fun s t hu hs => ?_⟩
  obtain ⟨hb, hpix⟩ | rfl | ⟨hb, q, rest, i, hq, hd, hw⟩ := step_writes hu hs
  · exact ⟨fun _ => .inl hb, fun _ _ => .inl hb, fun hne => absurd hpix hne⟩
  · exact ⟨fun hne => absurd rfl hne, fun _ hne => absurd rfl hne, fun hne => absurd rfl hne⟩
  · refine ⟨fun hne => .inr ⟨q, rest, hq, ?_⟩, fun n hne => .inr ⟨q, rest, hq, ?_⟩,
      fun hne => ⟨hb, q, rest, i, hq, hd, hw.pix.resolve_left hne⟩⟩
    · obtain rfl | ⟨rfl, hc⟩ := hw.trace.resolve_left hne
      · exact .inl hd
      · exact .inr ⟨hd, hc⟩
    · obtain rfl | rfl | ⟨cot, rfl⟩ := hw.line.resolve_left fun hl => hne (by rw [hl])
      · exact .inl hd
      · exact .inr (.inl hd)
      · exact .inr (.inr ⟨cot, hd⟩)

end Sys2Proof.Machine

/-! # Encoding (30_encoding.md)

Layers: the rows of the tables; what the decoder reads, said once (`Reads`); the encoder's fields; words put
together from fields; the ports; the bytes of a frame; a placed word; the writes of a running transmission;
a transmission as its frames. Each obligation stands after the layer it needs. -/

namespace Sys2Proof

/-! ## Rows and the fields of a word (30_encoding.md R68 to R71) -/

theorem Row.selects_iff {n : Nat} {row : Row n} {w : BitVec n} :
    row.selects w = true ↔ w &&& row.mask = row.pattern := beq_iff_eq

/-- A field that the mask keeps whole is the pattern's in every word of the row. -/
theorem Row.field_eq {n : Nat} {row : Row n} {w : BitVec n} (h : row.selects w = true) (start len : Nat)
    (hmask : row.mask.extractLsb' start len = BitVec.allOnes len) :
    w.extractLsb' start len = row.pattern.extractLsb' start len := by
  rw [← Row.selects_iff.1 h, BitVec.extractLsb'_and, hmask, BitVec.and_allOnes]

/-- A row without an operand has one word. -/
theorem Row.eq_pattern {n : Nat} {row : Row n} {w : BitVec n} (h : row.selects w = true)
    (hmask : row.mask = BitVec.allOnes n) : w = row.pattern := by
  rw [← Row.selects_iff.1 h, hmask, BitVec.and_allOnes]

/-- Where the patterns differ in a bit that both masks keep, no word has both patterns. -/
theorem Row.not_both_select {n : Nat} {a b : Row n} (hd : a.disjoint b = true) (w : BitVec n) :
    ¬ (a.selects w = true ∧ b.selects w = true) := by
  rintro ⟨ha, hb⟩
  have hzero : (w &&& a.mask ^^^ w &&& b.mask) &&& a.mask &&& b.mask = 0#n := by
    ext i hi
    simp only [BitVec.getElem_and, BitVec.getElem_xor, BitVec.getElem_zero]
    cases w[i] <;> cases a.mask[i] <;> cases b.mask[i] <;> rfl
  rw [Row.selects_iff.1 ha, Row.selects_iff.1 hb] at hzero
  simp [Row.disjoint, hzero] at hd

theorem Row.selects_eq_false {n : Nat} {a b : Row n} {w : BitVec n} (hb : b.selects w = true)
    (hd : a.disjoint b = true) : a.selects w = false :=
  Bool.eq_false_iff.2 fun ha => Row.not_both_select hd w ⟨ha, hb⟩

/-- Settles O4: the rows of a table are pairwise `Row.disjoint`. -/
theorem opcodeRowsAreDisjoint : Obligations.OpcodeRowsAreDisjoint := by
  have hd : dRows.Pairwise (fun a b => a.disjoint b = true) := by decide
  have hp : pRows.Pairwise (fun a b => a.disjoint b = true) := by decide
  have hg : gRows.Pairwise (fun a b => a.disjoint b = true) := by decide
  exact ⟨fun w => hd.imp (Row.not_both_select · w), fun w => hp.imp (Row.not_both_select · w),
    fun w => hg.imp (Row.not_both_select · w)⟩

/-! ## What the decoder reads: one row, and the operands from their fields -/

/-- The word is selected by the row of the instruction's mnemonic, and the operands are its fields. -/
inductive Reads : Word → Instr → Prop
  | construct {w : BitVec 40} (row : rowConstruct.selects w = true) : Reads (.d w) (.construct (w.getLsbD 0))
  | transmit {w : BitVec 40} (row : rowTransmit.selects w = true) : Reads (.d w) .transmit
  | getpix {w : BitVec 40} (row : rowGetpix.selects w = true) : Reads (.d w) (.getpix (idxField w))
  | setpix {w : BitVec 40} (row : rowSetpix.selects w = true) : Reads (.d w)
      (.setpix (idxField w) (w.extractLsb' 16 8) (w.extractLsb' 8 8) (w.extractLsb' 0 8))
  | setall {w : BitVec 40} (row : rowSetall.selects w = true) : Reads (.d w)
      (.setall (w.extractLsb' 16 8) (w.extractLsb' 8 8) (w.extractLsb' 0 8))
  | clrall {w : BitVec 40} (row : rowClrall.selects w = true) : Reads (.d w) .clrall
  | teardown {w : BitVec 40} (row : rowTeardown.selects w = true) : Reads (.d w) .teardown
  | getrgb {w : BitVec 28} (row : rowGetrgb.selects w = true) : Reads (.p w) .getrgb
  | getrgbl {w : BitVec 28} (row : rowGetrgbl.selects w = true) : Reads (.p w) .getrgbl
  | setrgb {w : BitVec 28} (row : rowSetrgb.selects w = true) : Reads (.p w)
      (.setrgb (w.extractLsb' 16 8) (w.extractLsb' 8 8) (w.extractLsb' 0 8))
  | setbrt {w : BitVec 28} (row : rowSetbrt.selects w = true) : Reads (.p w) .setbrt
  | setrgbl {w : BitVec 28} (row : rowSetrgbl.selects w = true) : Reads (.p w)
      (.setrgbl (w.extractLsb' 16 8) (w.extractLsb' 8 8) (w.extractLsb' 0 8))
  | clr {w : BitVec 28} (row : rowClr.selects w = true) : Reads (.p w) .clr
  | serbytes {w : BitVec 28} (row : rowSerbytes.selects w = true) : Reads (.p w) .serbytes
  | openchip {w : BitVec 4} (row : rowOpen.selects w = true) : Reads (.g w) .openchip
  | reqline {w : BitVec 4} (row : rowReqline.selects w = true) : Reads (.g w)
      (.reqline (lineOfSel (w.getLsbD 1)) (w.getLsbD 0))
  | setval {w : BitVec 4} (row : rowSetval.selects w = true) : Reads (.g w)
      (.setval (lineOfSel (w.getLsbD 1)) (w.getLsbD 0))
  | release {w : BitVec 4} (row : rowRelease.selects w = true) : Reads (.g w)
      (.release (lineOfSel (w.getLsbD 1)))
  | sof {w : BitVec 32} (row : rowSof.selects w = true) : Reads (.w32 w) .sof
  | ledframe {w : BitVec 32} (row : rowLedframe.selects w = true) : Reads (.w32 w)
      (.ledframe (w.extractLsb' 24 5) (w.extractLsb' 16 8) (w.extractLsb' 8 8) (w.extractLsb' 0 8))
  | eof {w : BitVec 36} (row : rowEof.selects w = true) : Reads (.w36 w) .eof

theorem reads_of_decode {w : Word} {i : Instr} (h : decode w = .ok i) : Reads w i := by
  cases w <;> simp only [decode, decodeD, decodeP, decodeG, decodeW32, decodeW36] at h <;> split_ifs at h
  all_goals cases h
  all_goals (constructor; assumption)

/-- The rows before the one that selects the word do not: they are disjoint from it. -/
theorem Reads.decode_eq {w : Word} {i : Instr} (h : Reads w i) : decode w = .ok i := by
  cases h with
  | _ row =>
    simp (decide := true) [decode, decodeD, decodeP, decodeG, decodeW32, decodeW36, row, Row.selects_eq_false row]

theorem matchesRow_iff {w : Word} : w.matchesRow = true ↔ ∃ i, Reads w i := by
  constructor
  · intro h
    cases w <;> simp only [Word.matchesRow, dRows, pRows, gRows, List.any_cons, List.any_nil, Bool.or_eq_true,
      Bool.false_eq_true, or_false] at h
    case d =>
      rcases h with h | h | h | h | h | h | h
      exacts [⟨_, .construct h⟩, ⟨_, .transmit h⟩, ⟨_, .getpix h⟩, ⟨_, .setpix h⟩, ⟨_, .setall h⟩, ⟨_, .clrall h⟩,
        ⟨_, .teardown h⟩]
    case p =>
      rcases h with h | h | h | h | h | h | h
      exacts [⟨_, .getrgb h⟩, ⟨_, .getrgbl h⟩, ⟨_, .setrgb h⟩, ⟨_, .setbrt h⟩, ⟨_, .setrgbl h⟩, ⟨_, .clr h⟩,
        ⟨_, .serbytes h⟩]
    case g =>
      rcases h with h | h | h | h
      exacts [⟨_, .openchip h⟩, ⟨_, .reqline h⟩, ⟨_, .setval h⟩, ⟨_, .release h⟩]
    case w32 =>
      rcases h with h | h
      exacts [⟨_, .sof h⟩, ⟨_, .ledframe h⟩]
    case w36 => exact ⟨_, .eof h⟩
  · rintro ⟨i, h⟩
    cases h with
    | _ row => simp [Word.matchesRow, dRows, pRows, gRows, row]

/-- A word that no row selects is the only kind that the decoder refuses (30_encoding.md R75). -/
theorem matchesRow_eq_false_iff {w : Word} : w.matchesRow = false ↔ ∃ e, decode w = .error e := by
  rw [← Bool.not_eq_true, matchesRow_iff]
  cases hd : decode w with
  | ok i => simpa using ⟨i, reads_of_decode hd⟩
  | error e =>
    have hnone : ¬ ∃ i, Reads w i := fun ⟨i, hi⟩ => by simp [hi.decode_eq] at hd
    simpa using hnone

/-! ## The encoder's fields -/

section Fields
variable {n : Nat} (x : BitVec n) (r g b : Byte)

/-! The last three bytes of a word are its fields 23:16, 15:8 and 7:0, whatever stands before them. -/

@[simp] theorem appendBytes_field_16 : (x ++ r ++ g ++ b).extractLsb' 16 8 = r := by
  rw [BitVec.extractLsb'_append_eq_of_le (by decide), BitVec.extractLsb'_append_eq_of_le (by decide)]
  exact BitVec.extractLsb'_append_eq_right

@[simp] theorem appendBytes_field_8 : (x ++ r ++ g ++ b).extractLsb' 8 8 = g := by
  rw [BitVec.extractLsb'_append_eq_of_le (by decide)]
  exact BitVec.extractLsb'_append_eq_right

@[simp] theorem appendBytes_field_0 : (x ++ r ++ g ++ b).extractLsb' 0 8 = b :=
  BitVec.extractLsb'_append_eq_right

@[simp] theorem appendBytes_field_24 (len : Nat) : (x ++ r ++ g ++ b).extractLsb' 24 len = x.extractLsb' 0 len := by
  rw [BitVec.extractLsb'_append_eq_of_le (by decide), BitVec.extractLsb'_append_eq_of_le (by decide),
    BitVec.extractLsb'_append_eq_of_le (by decide)]

end Fields

@[simp] theorem idxField_append (x index r g b : Byte) : idxField (x ++ index ++ r ++ g ++ b) = index.toNat := by
  rw [idxField, appendBytes_field_24, BitVec.extractLsb'_append_eq_right]

@[simp] theorem selOfLine_lineOfSel (sel : Bit) : selOfLine (lineOfSel sel) = sel := by cases sel <;> rfl

open Laws in
/-- The encoder's word is in the row of its mnemonic, and its fields are the operands. -/
theorem encode_reads {i : Instr} (h : i.wellFormed = true) : Reads (encode i) i := by
  cases i with
  | construct cot => cases cot <;> exact .construct (EncodedInRow.construct _)
  | transmit => exact .transmit EncodedInRow.transmit
  | getpix index =>
    have hi : index < 256 := of_decide_eq_true h
    simpa [encode, wordD, Nat.mod_eq_of_lt hi] using Reads.getpix (EncodedInRow.getpix index)
  | setpix index r g b =>
    have hi : index < 256 := of_decide_eq_true h
    simpa [encode, wordD, Nat.mod_eq_of_lt hi] using Reads.setpix (EncodedInRow.setpix index r g b)
  | setall r g b =>
    simpa [encode, wordD] using Reads.setall (EncodedInRow.setall r g b)
  | clrall => exact .clrall EncodedInRow.clrall
  | teardown => exact .teardown EncodedInRow.teardown
  | getrgb => exact .getrgb EncodedInRow.getrgb
  | getrgbl => exact .getrgbl EncodedInRow.getrgbl
  | setrgb r g b =>
    simpa [encode, wordP] using Reads.setrgb (EncodedInRow.setrgb r g b)
  | setbrt => exact .setbrt EncodedInRow.setbrt
  | setrgbl r g b =>
    simpa [encode, wordP] using Reads.setrgbl (EncodedInRow.setrgbl r g b)
  | clr => exact .clr EncodedInRow.clr
  | serbytes => exact .serbytes EncodedInRow.serbytes
  | openchip => exact .openchip EncodedInRow.openchip
  | reqline l v => cases l <;> cases v <;> exact .reqline (EncodedInRow.reqline _ _)
  | setval l v => cases l <;> cases v <;> exact .setval (EncodedInRow.setval _ _)
  | release l => cases l <;> exact .release (EncodedInRow.release _)
  | sof => exact .sof EncodedInRow.sof
  | ledframe v b g r =>
    have hv : (0b111#3 ++ v).extractLsb' 0 5 = v := BitVec.extractLsb'_append_eq_right
    simpa [encode, ledFrameWord, hv] using Reads.ledframe (EncodedInRow.ledframe v b g r)
  | eof => exact .eof EncodedInRow.eof

/-- Settles O1: the encoder's word reads back as the instruction, in its own row. -/
theorem decodeEncodeRoundTrip : Obligations.DecodeEncodeRoundTrip := fun _ h => (encode_reads h).decode_eq

/-! ## Every word is its fields in a row (30_encoding.md R62, R68, R70, R71) -/

@[simp] theorem ofNat_idxField (w : BitVec 40) : BitVec.ofNat 8 (idxField w) = w.extractLsb' 24 8 :=
  BitVec.ofNat_toNat ..

theorem idxField_encodable (w : BitVec 40) : indexEncodable (idxField w) = true :=
  decide_eq_true (w.extractLsb' 24 8).isLt

/-- A one-bit field. -/
theorem extractLsb'_one {n : Nat} (w : BitVec n) (i : Nat) : w.extractLsb' i 1 = BitVec.ofBool (w.getLsbD i) := by
  ext j hj
  obtain rfl : j = 0 := by omega
  simp

open BitVec (extractLsb'_append_extractLsb'_eq_extractLsb')

theorem wordD_of_fields {w : BitVec 40} {op : BitVec 4} {index : Nat} {r g b : Byte}
    (hop : w.extractLsb' 36 4 = op) (hzero : w.extractLsb' 32 4 = 0#4)
    (hidx : w.extractLsb' 24 8 = BitVec.ofNat 8 index) (hr : w.extractLsb' 16 8 = r)
    (hg : w.extractLsb' 8 8 = g) (hb : w.extractLsb' 0 8 = b) : wordD op index r g b = .d w := by
  rw [wordD, ← hop, ← hzero, ← hidx, ← hr, ← hg, ← hb]
  iterate 5 rw [extractLsb'_append_extractLsb'_eq_extractLsb' (by decide)]
  rw [BitVec.extractLsb'_eq_self]

theorem wordP_of_fields {w : BitVec 28} {op : BitVec 4} {r g b : Byte} (hop : w.extractLsb' 24 4 = op)
    (hr : w.extractLsb' 16 8 = r) (hg : w.extractLsb' 8 8 = g) (hb : w.extractLsb' 0 8 = b) :
    wordP op r g b = .p w := by
  rw [wordP, ← hop, ← hr, ← hg, ← hb]
  iterate 3 rw [extractLsb'_append_extractLsb'_eq_extractLsb' (by decide)]
  rw [BitVec.extractLsb'_eq_self]

theorem wordG_of_fields {w : BitVec 4} {gop : BitVec 2} {sel : Line} {val : Bit} (hgop : w.extractLsb' 2 2 = gop)
    (hsel : w.extractLsb' 1 1 = BitVec.ofBool (selOfLine sel)) (hval : w.extractLsb' 0 1 = BitVec.ofBool val) :
    wordG gop sel val = .g w := by
  rw [wordG, ← hgop, ← hsel, ← hval]
  iterate 2 rw [extractLsb'_append_extractLsb'_eq_extractLsb' (by decide)]
  rw [BitVec.extractLsb'_eq_self]

theorem ledFrameWord_of_marker {w : BitVec 32} (hm : w.extractLsb' 29 3 = 0b111#3) :
    ledFrameWord (w.extractLsb' 24 5) (w.extractLsb' 16 8) (w.extractLsb' 8 8) (w.extractLsb' 0 8) = w := by
  rw [ledFrameWord, ← hm]
  iterate 4 rw [extractLsb'_append_extractLsb'_eq_extractLsb' (by decide)]
  rw [BitVec.extractLsb'_eq_self]

/-- CONSTRUCT's last byte: seven zeros and `cot`. -/
theorem extractLsb'_zeros_append_bit {n : Nat} {w : BitVec n} (h : w.extractLsb' 1 7 = 0#7) :
    w.extractLsb' 0 8 = 0#7 ++ BitVec.ofBool (w.getLsbD 0) := by
  rw [← h, ← extractLsb'_one, extractLsb'_append_extractLsb'_eq_extractLsb' (by decide)]

/-- Each field of the instruction's word is the word's: fixed by the row, or an operand. -/
theorem Reads.encode_eq {w : Word} {i : Instr} (h : Reads w i) : encode i = w := by
  cases h with
  | construct h =>
    exact wordD_of_fields (Row.field_eq h 36 4 rfl) (Row.field_eq h 32 4 rfl) (Row.field_eq h 24 8 rfl)
      (Row.field_eq h 16 8 rfl) (Row.field_eq h 8 8 rfl) (extractLsb'_zeros_append_bit (Row.field_eq h 1 7 rfl))
  | getpix h =>
    exact wordD_of_fields (Row.field_eq h 36 4 rfl) (Row.field_eq h 32 4 rfl) (ofNat_idxField _).symm
      (Row.field_eq h 16 8 rfl) (Row.field_eq h 8 8 rfl) (Row.field_eq h 0 8 rfl)
  | setpix h =>
    exact wordD_of_fields (Row.field_eq h 36 4 rfl) (Row.field_eq h 32 4 rfl) (ofNat_idxField _).symm rfl rfl rfl
  | setall h =>
    exact wordD_of_fields (Row.field_eq h 36 4 rfl) (Row.field_eq h 32 4 rfl) (Row.field_eq h 24 8 rfl) rfl rfl rfl
  | setrgb h => exact wordP_of_fields (Row.field_eq h 24 4 rfl) rfl rfl rfl
  | setrgbl h => exact wordP_of_fields (Row.field_eq h 24 4 rfl) rfl rfl rfl
  | reqline h =>
    exact wordG_of_fields (Row.field_eq h 2 2 rfl) (by simp [extractLsb'_one]) (extractLsb'_one _ 0)
  | setval h =>
    exact wordG_of_fields (Row.field_eq h 2 2 rfl) (by simp [extractLsb'_one]) (extractLsb'_one _ 0)
  | release h =>
    exact wordG_of_fields (Row.field_eq h 2 2 rfl) (by simp [extractLsb'_one]) (Row.field_eq h 0 1 rfl)
  | ledframe h => exact congrArg Word.w32 (ledFrameWord_of_marker (Row.field_eq h 29 3 rfl))
  | _ h => rw [Row.eq_pattern h rfl]; rfl

theorem Reads.wellFormed {w : Word} {i : Instr} (h : Reads w i) : i.wellFormed = true := by
  cases h with
  | getpix | setpix => exact idxField_encodable _
  | _ => rfl

/-- Settles O2: the row fixes the fields outside the operands, and the operands are the other fields. -/
theorem decodedWordsReencode : Obligations.DecodedWordsReencode := fun _ _ h =>
  ⟨(reads_of_decode h).wellFormed, (reads_of_decode h).encode_eq⟩

/-- Settles O5: the decoder evaluates each word. -/
theorem specWordsDecode : Obligations.SpecWordsDecode := by
  unfold Obligations.SpecWordsDecode
  decide

end Sys2Proof

namespace Sys2Proof.Machine

/-! ## The ports: which word a step takes (30_encoding.md R67, R75, R77) -/

section Ports
variable {s : State} {q : Request} {rest : List Request} {u : UnitCommand} {i : Instr} {e : DecodeError}

theorem step_of_request (hu : s.unitPort = none) (hb : s.txBusy = false) (hs : s.script = q :: rest) :
    step s = takeRequest s q rest := by simp [step, stepBody, hu, hb, hs]

theorem step_of_unitCommand (hu : s.unitPort = some u) : step s = takeUnitCommand s u := by
  simp [step, stepBody, hu]

theorem takeRequest_of_decode (hd : decode (.d q.word) = .ok i) (hq : q.stepwise = false) :
    takeRequest s q rest = exec i (s.present q rest) := by
  change decodeD q.word = .ok i at hd
  simp [takeRequest, hd, runRequest, hq]

theorem takeRequest_of_reserved (hd : decode (.d q.word) = .error e) :
    takeRequest s q rest = .refused .reservedWord := by
  change decodeD q.word = .error e at hd
  simp [takeRequest, hd]

theorem takeUnitCommand_of_decode (hd : decode u.word.toWord = .ok i) :
    takeUnitCommand s u = exec i (s.presentUnit u) := by simp [takeUnitCommand, hd]

theorem takeUnitCommand_of_reserved (hd : decode u.word.toWord = .error e) :
    takeUnitCommand s u = .refused .reservedWord := by simp [takeUnitCommand, hd]

end Ports

/-- Settles O3: no row and no instruction are the same, and both ports refuse what does not decode. -/
theorem reservedWordsAreRefused : Obligations.ReservedWordsAreRefused := by
  refine ⟨fun w => matchesRow_eq_false_iff, fun s q rest hu hb hs hm => ?_, fun s u hu hm => ?_⟩
  · obtain ⟨e, he⟩ := matchesRow_eq_false_iff.1 hm
    exact (step_of_request hu hb hs).trans (takeRequest_of_reserved he)
  · obtain ⟨e, he⟩ := matchesRow_eq_false_iff.1 hm
    exact (step_of_unitCommand hu).trans (takeUnitCommand_of_reserved he)

/-- Settles O6: each port hands the decoded instruction to `exec`, the side operands on their ports. -/
theorem stepRunsTheDecodedInstruction : Obligations.StepRunsTheDecodedInstruction :=
  ⟨fun _ _ _ _ hu hb hs hd hq => (step_of_request hu hb hs).trans (takeRequest_of_decode hd hq),
    fun _ _ _ hu hd => (step_of_unitCommand hu).trans (takeUnitCommand_of_decode hd)⟩

/-! The step of each of the three ways to place a word (log 10). -/

section Placing
variable {s : State} {i : Instr}

theorem step_withRequest {w : BitVec 40} (hd : decode (.d w) = .ok i) :
    step (s.withRequest w) = exec i { s with seq := 0, txBusy := false, unitPort := none } := by
  rw [step_of_request (s := s.withRequest w) rfl rfl rfl, takeRequest_of_decode hd rfl]
  rfl

theorem step_withUnitWord {w : UnitWord} (hd : decode w.toWord = .ok i) (n : Nat) :
    step (s.withUnitWord w n) =
      exec i { s with seq := 0, txBusy := false, unitPort := none, lineNumber := n } := by
  rw [step_of_unitCommand (s := s.withUnitWord w n) rfl, takeUnitCommand_of_decode hd]
  rfl

theorem step_withFrame {w : UnitWord} (hd : decode w.toWord = .ok i) (n : Nat) :
    step (s.withFrame w n) = exec i { s with seq := n, txBusy := true, unitPort := none } := by
  rw [step_of_unitCommand (s := s.withFrame w n) rfl, takeUnitCommand_of_decode hd]
  rfl

end Placing

/-! ## The bytes of a pixel's frame (30_encoding.md R62, 42_transmit.md R118, R119) -/

theorem packBrt_levelOfBrt (brt : Byte) : packBrt (levelOfBrt brt) = brt ||| Config.marker := by decide +revert

@[simp] theorem levelOfBrt_packBrt (v : Level5) : levelOfBrt (packBrt v) = v := by decide +revert

theorem packBrt_eq_append (v : Level5) : packBrt v = 0b111#3 ++ v := by decide +revert

theorem packBrt_eq_or_ofNat (v : Level5) : packBrt v = 0xE0 ||| BitVec.ofNat 8 v.toNat := by
  rw [BitVec.ofNat_toNat]; rfl

/-- The LED-frame word of pixel `p`. -/
def pixelWord (pix : Vector Pixel 8) (p : Fin 8) : BitVec 32 :=
  ledFrameWord (levelOfBrt pix[p].brt) pix[p].b pix[p].g pix[p].r

/-- The bytes on the wire are those of the LED-frame word, first-sent byte most significant. -/
theorem wirebyte_eq_field (pix : Vector Pixel 8) (p : Fin 8) (k : Fin 4) :
    wirebyte pix p k = (pixelWord pix p).extractLsb' (24 - 8 * k.val) 8 := by
  rw [pixelWord, ledFrameWord]
  match k with
  | 0 =>
    rw [← packBrt_eq_append]
    exact (packBrt_levelOfBrt _).symm.trans ((appendBytes_field_24 ..).trans BitVec.extractLsb'_eq_self).symm
  | 1 => exact (appendBytes_field_16 ..).symm
  | 2 => exact (appendBytes_field_8 ..).symm
  | 3 => exact (appendBytes_field_0 ..).symm

/-- Bit `j` of the wire, counted from the first-sent, is that of the LED-frame word. -/
theorem wirebyte_getLsbD (pix : Vector Pixel 8) (p : Fin 8) {j : Nat} (hj : j < 32) :
    (wirebyte pix p (Fin.ofNat 4 (j / 8))).getLsbD (7 - j % 8) = (pixelWord pix p).getLsbD (31 - j) := by
  have hk : (Fin.ofNat 4 (j / 8)).val = j / 8 := Nat.mod_eq_of_lt (by omega)
  have hbit : 24 - 8 * (j / 8) + (7 - j % 8) = 31 - j := by omega
  have hlt : 7 - j % 8 < 8 := by omega
  rw [wirebyte_eq_field, hk, BitVec.getLsbD_extractLsb', hbit, decide_eq_true hlt, Bool.true_and]

/-! ## Bits as numbers -/

theorem bitsToNat_append (as bs : List Bit) : bitsToNat (as ++ bs) = bitsToNat as * 2 ^ bs.length + bitsToNat bs := by
  induction bs using List.reverseRecOn with
  | nil => simp [bitsToNat]
  | append_singleton bs b ih =>
    have hsnoc (l : List Bit) : bitsToNat (l ++ [b]) = 2 * bitsToNat l + b.toNat := by simp [bitsToNat]
    rw [← List.append_assoc, hsnoc, hsnoc, ih, List.length_append, List.length_singleton]
    ring

theorem bitsToNat_bits8 (v : Byte) : bitsToNat (bits8 v) = v.toNat := by decide +revert

@[simp] theorem frame_length (pix : Vector Pixel 8) (p : Fin 8) : (frame pix p).length = 32 := rfl

/-- The frame as a number, byte by byte. -/
theorem bitsToNat_frame (pix : Vector Pixel 8) (p : Fin 8) : bitsToNat (frame pix p) =
    (pix[p].brt ||| Config.marker).toNat * 2 ^ 24 + pix[p].b.toNat * 2 ^ 16 + pix[p].g.toNat * 2 ^ 8
      + pix[p].r.toNat := by
  simp only [frame, bitsToNat_append, bitsToNat_bits8, wirebyte]
  simp only [bits8, List.length_cons, List.length_nil]
  ring

theorem toNat_append_byte {n : Nat} (x : BitVec n) (y : Byte) : (x ++ y).toNat = x.toNat * 2 ^ 8 + y.toNat := by
  rw [BitVec.toNat_append, ← Nat.shiftLeft_add_eq_or_of_lt y.isLt, Nat.shiftLeft_eq]

theorem ledFrameWord_toNat (v : Level5) (b g r : Byte) : (ledFrameWord v b g r).toNat =
    (packBrt v).toNat * 2 ^ 24 + b.toNat * 2 ^ 16 + g.toNat * 2 ^ 8 + r.toNat := by
  rw [ledFrameWord, ← packBrt_eq_append, toNat_append_byte, toNat_append_byte, toNat_append_byte]
  ring

theorem or_marker_toNat (brt : Byte) : (brt ||| Config.marker).toNat = 0xE0 + (brt &&& 0x1F).toNat := by
  decide +revert

/-- Settles O32: both numbers are the four bytes at their weights, the first with the marker forced on. -/
theorem framePacksMarkerLevelBlueGreenRed : Obligations.FramePacksMarkerLevelBlueGreenRed := by
  intro pix p
  refine ⟨frame_length pix p, ?_, ?_⟩
  · rw [bitsToNat_frame, or_marker_toNat]
    ring
  · rw [bitsToNat_frame, ledFrameWord_toNat, packBrt_levelOfBrt]

/-! ## The frames a transmission has come to (log 9) -/

section Due
variable {s : State}

theorem exec_sof_of_due (hb : s.txBusy = true) (hs : s.seq = 0) : exec .sof s = .next (s.txRun 65) := by
  change s.sendFrame 65 (s.seq == 0) = _
  simp [State.sendFrame, hb, hs]

theorem exec_eof_of_due (hb : s.txBusy = true) (hs : s.seq = 833) : exec .eof s = .next (s.txRun 73) := by
  change s.sendFrame 73 (s.seq == 833) = _
  simp [State.sendFrame, hb, hs]

theorem State.frameDue_of_pixel {p : Fin 8} (hs : s.seq = 65 + 96 * p.val) :
    s.frameDue (levelOfBrt s.pix[p].brt) s.pix[p].b s.pix[p].g s.pix[p].r p = true := by
  simp [State.frameDue, hs, wirebyte, packBrt_levelOfBrt]

theorem mem_chain (p : Fin 8) : p ∈ chain := by decide +revert

theorem exec_ledframe_of_due {p : Fin 8} (hb : s.txBusy = true) (hs : s.seq = 65 + 96 * p.val) :
    exec (.ledframe (levelOfBrt s.pix[p].brt) s.pix[p].b s.pix[p].g s.pix[p].r) s = .next (s.txRun 96) := by
  change s.sendFrame 96 (chain.any _) = _
  have hdue := List.any_eq_true.2 ⟨p, mem_chain p, State.frameDue_of_pixel hs⟩
  simp only [State.sendFrame, hb, hdue, Bool.and_self, if_true]

end Due

/-! ## A word where the next step takes it (log 10) -/

theorem exists_of_decodeTableWord {nbits w : Nat} {i : Instr} (h : decodeTableWord nbits w = some i) :
    ∃ word, tableWord nbits w = some word ∧ decode word = .ok i := by
  unfold decodeTableWord at h
  split at h
  · cases h
  · next word hw =>
    split at h
    · next j hd => cases h; exact ⟨word, hw, hd⟩
    · cases h

theorem State.withFetchWord_of_tableWord {s : State} {nbits w : Nat} {word : Word}
    (h : tableWord nbits w = some word) : s.withFetchWord nbits w = s.withWord word := by
  simp [State.withFetchWord, h]

section Placed
variable {s : State} {word : Word} {i : Instr}

/-- The word of a frame is the one that the encoder gives it. -/
theorem step_withWord_sof (hd : decode word = .ok .sof) :
    step (s.withWord word) = exec .sof { s with seq := 0, txBusy := true, unitPort := none } := by
  obtain rfl := (reads_of_decode hd).encode_eq
  exact step_withFrame (w := .w32 0) hd 0

theorem step_withWord_eof (hd : decode word = .ok .eof) :
    step (s.withWord word) = exec .eof { s with seq := 833, txBusy := true, unitPort := none } := by
  obtain rfl := (reads_of_decode hd).encode_eq
  exact step_withFrame (w := .w36 0) hd 833

theorem State.withFramePixel_ledFrameWord (v : Level5) (b g r : Byte) :
    s.withFramePixel (ledFrameWord v b g r) = s.setThisPixel (.of r g b v) := by
  have hv : (0b111#3 ++ v).extractLsb' 0 5 = v := BitVec.extractLsb'_append_eq_right
  simp [State.withFramePixel, ledFrameWord, hv]

theorem step_withWord_ledframe {v : Level5} {b g r : Byte} (hd : decode word = .ok (.ledframe v b g r)) :
    step (s.withWord word) = exec (.ledframe v b g r) { s.setThisPixel (.of r g b v) with
      seq := 65 + 96 * s.cell.val, txBusy := true, unitPort := none } := by
  obtain rfl := (reads_of_decode hd).encode_eq
  have hrow : rowLedframe.selects (ledFrameWord v b g r) = true := Laws.EncodedInRow.ledframe v b g r
  have hplace : s.withWord (encode (.ledframe v b g r)) =
      (s.setThisPixel (.of r g b v)).withFrame (.w32 (ledFrameWord v b g r)) (65 + 96 * s.cell.val) := by
    rw [← State.withFramePixel_ledFrameWord]
    exact if_pos hrow
  rw [hplace]
  exact step_withFrame (w := .w32 (ledFrameWord v b g r)) hd _

/-- A D- or P-format word is taken in the idle block. -/
theorem step_withWord_idle (hd : decode word = .ok i) (hf : i.format = .d ∨ i.format = .p) :
    step (s.withWord word) = exec i { s with seq := 0, txBusy := false, unitPort := none } := by
  cases word with
  | d w => exact step_withRequest hd
  | p w => exact step_withUnitWord (w := .p w) hd s.lineNumber
  | g w | w32 w | w36 w => cases reads_of_decode hd <;> simp [Instr.format] at hf

theorem step_withWord_g {w : BitVec 4} (hd : decode (.g w) = .ok i) : step (s.withWord (.g w)) =
    exec i { s with
      seq := 0, txBusy := false, unitPort := none, lineNumber := s.cfg.lineNo (lineOfSel (w.getLsbD 1)) } :=
  step_withUnitWord (w := .g w) hd _

/-- The frame made of the addressed pixel is due at that pixel's first write. -/
theorem exec_ledframe_setThisPixel (v : Level5) (b g r : Byte) : ∃ t, exec (.ledframe v b g r)
    { s.setThisPixel (.of r g b v) with seq := 65 + 96 * s.cell.val, txBusy := true, unitPort := none } =
      .next t := by
  have hexec := exec_ledframe_of_due (p := s.cell) (s :=
    { s.setThisPixel (.of r g b v) with seq := 65 + 96 * s.cell.val, txBusy := true, unitPort := none }) rfl rfl
  exact ⟨_, by simpa [State.setThisPixel, Pixel.of] using hexec⟩

theorem step_withWord_frame (hd : decode word = .ok i) (hf : i.format = .w) :
    ∃ t, step (s.withWord word) = .next t := by
  cases i with
  | sof => exact ⟨_, (step_withWord_sof hd).trans (exec_sof_of_due rfl rfl)⟩
  | ledframe v b g r => rw [step_withWord_ledframe hd]; exact exec_ledframe_setThisPixel v b g r
  | eof => exact ⟨_, (step_withWord_eof hd).trans (exec_eof_of_due rfl rfl)⟩
  | _ => cases hf

end Placed

/-- Settles O8: a word is placed on its port in a state in which its instruction is next. -/
theorem fetchedWordRunsNext : Obligations.FetchedWordRunsNext := by
  intro s nbits w i h
  obtain ⟨word, hword, hd⟩ := exists_of_decodeTableWord h
  rw [State.withFetchWord_of_tableWord hword]
  refine ⟨word, hword, hd, step_withWord_idle hd, ?_, ?_, ?_, ?_, step_withWord_frame hd⟩
  · rintro gw rfl
    exact step_withWord_g hd
  · rintro rfl
    exact step_withWord_sof hd
  · rintro v b g r rfl
    rw [← packBrt_eq_or_ofNat]
    exact step_withWord_ledframe hd
  · rintro rfl
    exact step_withWord_eof hd

/-! ## The next writes of a running transmission, all ok (42_transmit.md R121, R124) -/

theorem State.txRun_add (m n : Nat) (s : State) : s.txRun (m + n) = (s.txRun m).txRun n := by
  induction m generalizing s with
  | zero => rw [Nat.zero_add]; rfl
  | succ m ih =>
    cases hb : s.txBusy with
    | false => rw [State.txRun_idle _ hb, State.txRun_idle _ hb, State.txRun_idle _ hb]
    | true => rw [Nat.succ_add, State.txRun_busy _ hb, State.txRun_busy _ hb, ih]

theorem State.txRun_succ {n : Nat} {s : State} (hb : (s.txRun n).txBusy = true) :
    s.txRun (n + 1) = (s.txRun n).txStep := by
  rw [State.txRun_add, State.txRun_busy 0 hb]; rfl

theorem State.NoFail.mono {s : State} {m n : Nat} (h : s.NoFail n) (hmn : m ≤ n) : s.NoFail m :=
  fun k hk => h k (hk.trans_le hmn)

theorem okEventsFrom_succ (pix : Vector Pixel 8) (n k : Nat) : okEventsFrom pix n (k + 1) =
    okEventsFrom pix n k ++ [⟨(ev pix (n + k)).1, (ev pix (n + k)).2, true⟩] := by
  simp [okEventsFrom, List.range_succ]

/-- From `s` to `t` the next `n` writes have been made, all ok. -/
structure Sent (s : State) (n : Nat) (t : State) : Prop where
  frame : WriteFrame s t
  calls : t.calls = s.calls + n
  trace : t.trace = s.trace ++ okEventsFrom s.pix s.seq n

/-- The same, and the transmission goes on. -/
structure SentOn (s : State) (n : Nat) (t : State) : Prop extends Sent s n t where
  seq : t.seq = s.seq + n
  busy : t.txBusy = true
  out : t.out = s.out

section Writes
variable {s t : State} {n : Nat}

/-- The next call does not fail. -/
theorem Sent.next_ok (h : Sent s n t) (hf : s.NoFail (n + 1)) : t.fail.fails t.calls = false := by
  rw [h.frame.env.fail, h.calls]
  exact hf n n.lt_succ_self

theorem SentOn.txStep_sent (h : SentOn s n t) (hf : s.NoFail (n + 1)) : Sent s (n + 1) t.txStep where
  frame := h.frame.trans t.txStep_frame
  calls := by rw [t.txStep_calls, h.calls]; rfl
  trace := by
    rw [t.txStep_trace, h.next_ok hf, h.frame.pix, h.seq, h.trace, List.append_assoc, okEventsFrom_succ]; rfl

theorem SentOn.txStep (h : SentOn s n t) (hf : s.NoFail (n + 1)) (hn : s.seq + (n + 1) < 906) :
    SentOn s (n + 1) t.txStep := by
  have hadvance := State.txStep_advance (h.next_ok hf) (by rw [h.seq]; omega)
  refine ⟨h.txStep_sent hf, ?_, ?_, ?_⟩ <;> rw [hadvance]
  · exact congrArg (· + 1) h.seq
  · exact h.busy
  · exact h.out

theorem State.txRun_sentOn (hb : s.txBusy = true) (hf : s.NoFail n) (hn : s.seq + n < 906) :
    SentOn s n (s.txRun n) := by
  induction n with
  | zero => exact ⟨⟨.refl s, rfl, (List.append_nil _).symm⟩, rfl, hb, rfl⟩
  | succ n ih =>
    have h := ih (hf.mono n.le_succ) (by omega)
    rw [State.txRun_succ h.busy]
    exact h.txStep hf hn

/-- The last writes end the transmission with Ok. -/
theorem State.txRun_sent_last (hb : s.txBusy = true) (hf : s.NoFail (n + 1)) (hn : s.seq + (n + 1) = 906) :
    Sent s (n + 1) (s.txRun (n + 1)) ∧ (s.txRun (n + 1)).seq = 0 ∧ (s.txRun (n + 1)).txBusy = false ∧
      (s.txRun (n + 1)).out = .response (.ok .none) := by
  have h := State.txRun_sentOn hb (hf.mono n.le_succ) (by omega)
  rw [State.txRun_succ h.busy]
  have hlast := State.txStep_last (h.next_ok hf) (by rw [h.seq]; omega)
  exact ⟨h.txStep_sent hf, by rw [hlast]; rfl, by rw [hlast]; rfl, by rw [hlast]; rfl⟩

end Writes

/-! ## The events of each frame (30_encoding.md R61 to R64) -/

theorem okEventsFrom_add (pix : Vector Pixel 8) (n j k : Nat) :
    okEventsFrom pix n (j + k) = okEventsFrom pix n j ++ okEventsFrom pix (n + j) k := by
  simp [okEventsFrom, List.range_add, Nat.add_assoc]

/-- Events in groups of `m`. -/
theorem okEventsFrom_mul (pix : Vector Pixel 8) (n k m : Nat) : okEventsFrom pix n (k * m) =
    (List.range k).flatMap fun j => okEventsFrom pix (n + j * m) m := by
  induction k with
  | zero => simp [okEventsFrom]
  | succ k ih => simp [List.range_succ, Nat.succ_mul, okEventsFrom_add, ih]

/-- The three writes of bit `j` of pixel `p`'s frame (42_transmit.md R121). -/
theorem ev_pixel (pix : Vector Pixel 8) (p : Fin 8) {j t : Nat} (hj : j < 32) (ht : t < 3) :
    ev pix (65 + 96 * p.val + j * 3 + t) =
      if t = 0 then (.data, (pixelWord pix p).getLsbD (31 - j))
      else if t = 1 then (.clk, true) else (.clk, false) := by
  have h0 : ¬ 65 + 96 * p.val + j * 3 + t = 0 := by omega
  have h64 : ¬ 65 + 96 * p.val + j * 3 + t ≤ 64 := by omega
  have h832 : 65 + 96 * p.val + j * 3 + t ≤ 832 := by omega
  have hbit : (65 + 96 * p.val + j * 3 + t - 65) / 3 = 32 * p.val + j := by omega
  have hturn : (65 + 96 * p.val + j * 3 + t - 65) % 3 = t := by omega
  have hpixel : Fin.ofNat 8 ((32 * p.val + j) / 32) = p := Fin.ext (by rw [Fin.val_ofNat]; omega)
  have hin : (32 * p.val + j) % 32 = j := by omega
  have hin8 : (32 * p.val + j) % 8 = j % 8 := by omega
  simp only [ev, h0, h64, h832, hbit, hturn, hpixel, hin, hin8, wirebyte_getLsbD pix p hj, if_true, if_false]

/-! The clock writes of the two zero frames (42_transmit.md R121). -/

theorem ev_sof {pix : Vector Pixel 8} {n : Nat} (h0 : 0 < n) (hn : n ≤ 64) : ev pix n = (.clk, n % 2 == 1) := by
  rw [ev, if_neg h0.ne', if_pos hn]

theorem ev_eof {pix : Vector Pixel 8} {n : Nat} (hn : 833 < n) : ev pix n = (.clk, (n - 834) % 2 == 0) := by
  rw [ev, if_neg (by omega), if_neg (by omega), if_neg (by omega), if_neg hn.ne']

/-- A zero frame of `k` bits writes the data line once (30_encoding.md R64). -/
theorem okEventsFrom_zeroFrame {pix : Vector Pixel 8} {n k : Nat} (hdata : ev pix n = (.data, false))
    (hpulse : ∀ j, j < k → ev pix (n + 1 + j * 2) = (.clk, true) ∧ ev pix (n + 1 + j * 2 + 1) = (.clk, false)) :
    okEventsFrom pix n (1 + k * 2) = ⟨.data, false, true⟩ ::
      (List.replicate k [Event.mk .clk true true, Event.mk .clk false true]).flatten := by
  have hgroups : okEventsFrom pix (n + 1) (k * 2) =
      (List.replicate k [Event.mk .clk true true, Event.mk .clk false true]).flatten := by
    rw [okEventsFrom_mul, List.flatMap_congr (g := fun _ => [Event.mk .clk true true, Event.mk .clk false true])]
    · simp [List.flatMap_def]
    · intro j hj
      obtain ⟨hhigh, hlow⟩ := hpulse j (List.mem_range.1 hj)
      simp [okEventsFrom, List.range_succ, hhigh, hlow]
  rw [okEventsFrom_add, hgroups]
  simp [okEventsFrom, hdata]

theorem okEventsFrom_sof (pix : Vector Pixel 8) : okEventsFrom pix 0 65 = ⟨.data, false, true⟩ ::
    (List.replicate 32 [Event.mk .clk true true, Event.mk .clk false true]).flatten := by
  refine okEventsFrom_zeroFrame (pix := pix) (n := 0) (k := 32) rfl fun j hj => ?_
  have hhigh : (0 + 1 + j * 2) % 2 = 1 := by omega
  have hlow : (0 + 1 + j * 2 + 1) % 2 = 0 := by omega
  rw [ev_sof (by omega) (by omega), ev_sof (by omega) (by omega), hhigh, hlow]
  exact ⟨rfl, rfl⟩

theorem okEventsFrom_eof (pix : Vector Pixel 8) : okEventsFrom pix 833 73 = ⟨.data, false, true⟩ ::
    (List.replicate 36 [Event.mk .clk true true, Event.mk .clk false true]).flatten := by
  refine okEventsFrom_zeroFrame (pix := pix) (n := 833) (k := 36) rfl fun j _ => ?_
  rw [ev_eof (by omega), ev_eof (by omega)]
  simp [Nat.add_assoc]

theorem okEventsFrom_ledframe (pix : Vector Pixel 8) (p : Fin 8) : okEventsFrom pix (65 + 96 * p.val) (32 * 3) =
    (List.range 32).flatMap fun j =>
      [⟨.data, (pixelWord pix p).getLsbD (31 - j), true⟩, ⟨.clk, true, true⟩, ⟨.clk, false, true⟩] := by
  rw [okEventsFrom_mul]
  refine List.flatMap_congr fun j hj => ?_
  have hj := List.mem_range.1 hj
  have hdata : ev pix (65 + 96 * p.val + j * 3) = (.data, (pixelWord pix p).getLsbD (31 - j)) :=
    ev_pixel pix p (t := 0) hj (by decide)
  have hhigh : ev pix (65 + 96 * p.val + j * 3 + 1) = (.clk, true) := ev_pixel pix p hj (by decide)
  have hlow : ev pix (65 + 96 * p.val + j * 3 + 2) = (.clk, false) := ev_pixel pix p hj (by decide)
  simp [okEventsFrom, List.range_succ, hdata, hhigh, hlow]

/-- Settles O40: a frame that is due is the next 65, 96 or 73 writes, whose events are its bits. -/
theorem wireFramesWriteTheirBits : Obligations.WireFramesWriteTheirBits := by
  intro s hb
  refine ⟨fun hs hf => ?_, ?_, fun hs hf => ?_⟩
  · have h := State.txRun_sentOn hb hf (by omega)
    exact ⟨_, exec_sof_of_due hb hs, h.frame, by rw [h.seq, hs], h.busy, h.out, h.calls,
      by rw [h.trace, hs, ← okEventsFrom_sof s.pix]⟩
  · rintro p v b g r hs rfl rfl rfl rfl hf
    have h := State.txRun_sentOn hb hf (by omega)
    exact ⟨_, exec_ledframe_of_due hb hs, h.frame, h.seq, h.busy, h.out, h.calls,
      by rw [h.trace, hs]; exact congrArg _ (okEventsFrom_ledframe s.pix p)⟩
  · obtain ⟨h, hseq, hidle, hout⟩ := State.txRun_sent_last hb hf (by omega)
    exact ⟨_, exec_eof_of_due hb hs, ⟨h.frame, hseq, hidle⟩, hout, h.calls,
      by rw [h.trace, hs, ← okEventsFrom_eof s.pix]⟩

/-! ## A transmission as its frames (30_encoding.md R60) -/

theorem pixelWrites_eq_ledWrites (pix : Vector Pixel 8) (p : Fin 8) :
    pixelWrites pix p = ledWrites p (levelOfBrt pix[p].brt) pix[p].b pix[p].g pix[p].r := by
  simp [pixelWrites, frameBytes, ledWrites, wirebyte, packBrt_levelOfBrt]

theorem protocolWrites_eq_frames (pix : Vector Pixel 8) : protocolWrites pix = sofWrites ++
    (chain.flatMap fun p => ledWrites p (levelOfBrt pix[p].brt) pix[p].b pix[p].g pix[p].r) ++ eofWrites := by
  rw [protocolWrites, funext (pixelWrites_eq_ledWrites pix)]

theorem bitString_eq_frames (pix : Vector Pixel 8) : bitString pix =
    List.replicate 32 false ++ frame pix 0 ++ frame pix 1 ++ frame pix 2 ++ frame pix 3
      ++ frame pix 4 ++ frame pix 5 ++ frame pix 6 ++ frame pix 7 ++ List.replicate 36 false := by
  simp only [bitString, chain, List.flatMap_cons, List.flatMap_nil, List.append_nil, List.append_assoc]

theorem bitString_length (pix : Vector Pixel 8) : (bitString pix).length = 324 := by
  simp [bitString_eq_frames]

theorem execAll_cons {i : Instr} {s t : State} (h : exec i s = .next t) (is : List Instr) :
    execAll (i :: is) s = execAll is t := by simp [execAll, h]

theorem execAll_append {is js : List Instr} {s t : State} (h : execAll is s = .next t) :
    execAll (is ++ js) s = execAll js t := by
  induction is generalizing s with
  | nil => cases h; rfl
  | cons i is ih =>
    cases hi : exec i s with
    | next u =>
      rw [execAll_cons hi] at h
      rw [List.cons_append, execAll_cons hi, ih h]
    | fault f => cases f
    | refused r => simp [execAll, hi] at h

theorem take_succ_chain {k : Nat} (hk : k < 8) : chain.take (k + 1) = chain.take k ++ [⟨k, hk⟩] := by
  decide +revert

/-- The LED frame of pixel `p`, as an instruction. -/
def pixelFrame (pix : Vector Pixel 8) (p : Fin 8) : Instr :=
  .ledframe (levelOfBrt pix[p].brt) pix[p].b pix[p].g pix[p].r

section Frames
variable {s : State}

/-- After `n` writes of a TRANSMIT whose calls do not fail, the transmission stands at write `n`. -/
theorem State.txAccept_sentOn (hf : s.NoFail 906) {n : Nat} (hn : n < 906) :
    SentOn s.txAccept n (s.txAccept.txRun n) :=
  State.txRun_sentOn rfl (hf.mono hn.le) (by simpa using hn)

theorem exec_sof_txAccept : exec .sof s.txAccept = .next (s.txAccept.txRun 65) := exec_sof_of_due rfl rfl

theorem exec_pixelFrame_txRun (hf : s.NoFail 906) (p : Fin 8) :
    exec (pixelFrame s.pix p) (s.txAccept.txRun (65 + 96 * p.val)) =
      .next (s.txAccept.txRun (65 + 96 * (p.val + 1))) := by
  have h := State.txAccept_sentOn hf (n := 65 + 96 * p.val) (by omega)
  have hpix : (s.txAccept.txRun (65 + 96 * p.val)).pix = s.pix := h.frame.pix
  have hexec := exec_ledframe_of_due h.busy (p := p) (by simp [h.seq])
  rw [hpix] at hexec
  rw [Nat.mul_succ, ← Nat.add_assoc, State.txRun_add (65 + 96 * p.val) 96]
  exact hexec

theorem exec_eof_txRun (hf : s.NoFail 906) : exec .eof (s.txAccept.txRun 833) = .next s.transmit := by
  have h := State.txAccept_sentOn hf (n := 833) (by decide)
  rw [State.transmit, show Config.numWrites = 833 + 73 from rfl, State.txRun_add]
  exact exec_eof_of_due h.busy (by simp [h.seq])

/-- The frames of the first `k` pixels, after the start-of-frame. -/
theorem execAll_pixelFrames (hf : s.NoFail 906) {k : Nat} (hk : k ≤ 8) :
    execAll ((chain.take k).map (pixelFrame s.pix)) (s.txAccept.txRun 65) =
      .next (s.txAccept.txRun (65 + 96 * k)) := by
  induction k with
  | zero => rfl
  | succ k ih =>
    have hnext := exec_pixelFrame_txRun hf ⟨k, hk⟩
    rw [take_succ_chain hk, List.map_append, execAll_append (ih (Nat.le_of_succ_le hk))]
    exact execAll_cons hnext []

theorem execAll_frameInstrs (hf : s.NoFail 906) : execAll (frameInstrs s.pix) s.txAccept = .next s.transmit := by
  change execAll (.sof :: (chain.map (pixelFrame s.pix) ++ [.eof])) _ = _
  have hled : execAll (chain.map (pixelFrame s.pix)) (s.txAccept.txRun 65) = .next (s.txAccept.txRun 833) :=
    execAll_pixelFrames hf (le_refl 8)
  rw [execAll_cons exec_sof_txAccept, execAll_append hled]
  exact execAll_cons (exec_eof_txRun hf) []

end Frames

/-- Settles O42: after each frame the transmission stands where the next one is due, up to the end of all 906
writes. -/
theorem transmissionIsItsFramesInOrder : Obligations.TransmissionIsItsFramesInOrder :=
  ⟨fun pix => ⟨protocolWrites_eq_frames pix, bitString_eq_frames pix, bitString_length pix⟩,
    fun _ hu hf => (execAll_frameInstrs hf).trans (State.whenLive_of_usable hu).symm⟩

end Sys2Proof.Machine

/-! # The pixel operations (40_pixel_ops.md)

Layers: the quantiser as the floor of one product; each operation in a usable state; one operation after another;
what an operation reads and writes of the eight pixels. Each obligation stands after the layer it needs. -/

namespace Sys2Proof.Machine

/-! ## The quantiser (40_pixel_ops.md R86, R87) -/

theorem clampRat_eq_max_min (q : Rat) : clampRat q = max 0 (min 1 q) := by
  unfold clampRat
  split_ifs with h0 h1
  · rw [min_eq_right (by linarith), max_eq_left h0.le]
  · rw [min_eq_left h1.le, max_eq_right zero_le_one]
  · rw [min_eq_right (not_lt.1 h1), max_eq_right (not_lt.1 h0)]

theorem clampRat_nonneg (q : Rat) : 0 ≤ clampRat q := by simp [clampRat_eq_max_min]

theorem clampRat_le_one (q : Rat) : clampRat q ≤ 1 := by simp [clampRat_eq_max_min]

theorem clampRat_mono {p q : Rat} (h : p ≤ q) : clampRat p ≤ clampRat q := by
  rw [clampRat_eq_max_min, clampRat_eq_max_min]
  exact max_le_max_left 0 (min_le_min_left 1 h)

theorem clampRat_of_mem {q : Rat} (h0 : 0 ≤ q) (h1 : q ≤ 1) : clampRat q = q := by
  rw [clampRat_eq_max_min, min_eq_right h1, max_eq_right h0]

/-- The product fits five bits, so the stored level is the floor itself. -/
theorem quant5_fin_eq_floor (d : Level5) (q : Rat) : ((quant5 d (.fin q)).toNat : ℤ) = ⌊31 * clampRat q⌋ := by
  have hfloor := floor31_eq_floor (clampRat q) (clampRat_nonneg q)
  have hlt : ⌊31 * clampRat q⌋ < 32 := Int.floor_lt.2 (by have := clampRat_le_one q; push_cast; linarith)
  have hmod : floor31 (clampRat q) % 32 = floor31 (clampRat q) := Nat.mod_eq_of_lt (by omega)
  change ((floor31 (clampRat q) % 32 : ℕ) : ℤ) = _
  rw [hmod, hfloor]

theorem quant5_fin_eq_iff (d : Level5) (q : Rat) (k : Nat) : (quant5 d (.fin q)).toNat = k ↔
    (k : Rat) / 31 ≤ clampRat q ∧ clampRat q < ((k : Rat) + 1) / 31 := by
  rw [← Int.natCast_inj, quant5_fin_eq_floor, Int.floor_eq_iff, div_le_iff₀' (by norm_num),
    lt_div_iff₀' (by norm_num), Int.cast_natCast]

theorem quant5_fin_eq_31_iff (d : Level5) (q : Rat) : quant5 d (.fin q) = 31 ↔ 1 ≤ q := by
  rw [← BitVec.toNat_inj]
  refine (quant5_fin_eq_iff d q 31).trans ?_
  rw [clampRat_eq_max_min]
  norm_num

theorem quant5_fin_eq_zero_iff (d : Level5) (q : Rat) : quant5 d (.fin q) = 0 ↔ q < 1 / 31 := by
  rw [← BitVec.toNat_inj]
  refine (quant5_fin_eq_iff d q 0).trans ?_
  rw [clampRat_eq_max_min]
  norm_num

theorem quant5_fin_mono (d e : Level5) {p q : Rat} (h : p ≤ q) :
    (quant5 d (.fin p)).toNat ≤ (quant5 e (.fin q)).toNat := by
  rw [← Int.ofNat_le, quant5_fin_eq_floor, quant5_fin_eq_floor]
  exact Int.floor_mono (mul_le_mul_of_nonneg_left (clampRat_mono h) (by norm_num))

theorem unq_eq (k : Level5) : unq k = .fin ((k.toNat : Rat) / 31) :=
  congrArg Level.fin (Rat.mkRat_eq_div ..)

/-- `k / 31` lies in [0, 1] and at the lower end of `k`'s interval (40_pixel_ops.md R86). -/
@[simp] theorem quant5_unq (d k : Level5) : quant5 d (unq k) = k := by
  have hk : (k.toNat : Rat) ≤ 31 := mod_cast Nat.le_of_lt_succ k.isLt
  have hclamp : clampRat ((k.toNat : Rat) / 31) = k.toNat / 31 :=
    clampRat_of_mem (by positivity) (by linarith)
  rw [unq_eq, ← BitVec.toNat_inj, quant5_fin_eq_iff, hclamp]
  exact ⟨le_rfl, by linarith⟩

theorem isQuant_quant5 (d : Level5) (level : Level) : IsQuant level (quant5 d level) := by
  cases level with
  | nan => trivial
  | negInf => rfl
  | posInf => rfl
  | fin q => exact (quant5_fin_eq_floor d q).trans (by rw [clampRat_eq_max_min])

/-- Settles O11: all but the last are bounds of one floor. -/
theorem quantiserLaws : Obligations.QuantiserLaws :=
  ⟨fun d q k _ => quant5_fin_eq_iff d q k, quant5_fin_eq_31_iff, quant5_fin_eq_zero_iff,
    fun d e _ _ => quant5_fin_mono d e, fun _ => ⟨rfl, rfl⟩, fun d k => ⟨unq_eq k, quant5_unq d k⟩,
    fun d => ⟨rfl, quant5_clearLevel d⟩⟩


/-! ## The seven pixel operations in a usable state (40_pixel_ops.md R88 to R97) -/

/-- The state SETBRT answers (40_pixel_ops.md R91). -/
def State.brtStored (s : State) : State :=
  ((s.setThisPixel (s.thisPixel.withLevel (s.levelOperand 0))).useLevel 1).finishOk .none

section PixelOps
variable {s : State}

theorem exec_getrgb_of_usable (hu : s.Usable) :
    exec .getrgb s = .next (s.finishOk (.rgb s.thisPixel.r s.thisPixel.g s.thisPixel.b)) :=
  State.whenPixels_of_usable hu

theorem exec_getrgbl_of_usable (hu : s.Usable) : exec .getrgbl s = .next (s.finishOk s.thisPixel.decoded) :=
  State.whenPixels_of_usable hu

theorem exec_setrgb_of_usable (hu : s.Usable) (r g b : Byte) :
    exec (.setrgb r g b) s = .next ((s.setThisPixel (s.thisPixel.withRgb r g b)).finishOk .none) :=
  State.whenPixels_of_usable hu

theorem exec_setbrt_of_usable (hu : s.Usable) : exec .setbrt s = .next s.brtStored :=
  State.whenPixels_of_usable hu

theorem exec_setrgbl_of_usable (hu : s.Usable) (r g b : Byte) : exec (.setrgbl r g b) s =
    .next (((s.setThisPixel (.of r g b (s.levelOperand 0))).useLevel 1).finishOk .none) :=
  State.whenPixels_of_usable hu

theorem exec_clr_of_usable (hu : s.Usable) :
    exec .clr s = .next ((s.setThisPixel (s.thisPixel.withRgb 0 0 0)).finishOk .none) :=
  State.whenPixels_of_usable hu

theorem exec_serbytes_of_live (hl : s.life = .live) : exec .serbytes s =
    .next (s.answer (.bytes s.thisPixel.brt s.thisPixel.b s.thisPixel.g s.thisPixel.r)) :=
  if_pos hl

end PixelOps

/-- Settles O12. -/
theorem getrgbReturnsStoredColour : Obligations.GetrgbReturnsStoredColour := fun _ hu => exec_getrgb_of_usable hu

/-- The level returned is `unq` of BRT's low five bits (40_pixel_ops.md R87, R89). -/
theorem unq_levelOfBrt (brt : Byte) : unq (levelOfBrt brt) = .fin (((brt &&& 0x1F).toNat : Rat) / 31) := by
  have hlow : (levelOfBrt brt).toNat = (brt &&& 0x1F).toNat := by decide +revert
  rw [unq_eq, hlow]

/-- Settles O13. -/
theorem getrgblDecodesBrightness : Obligations.GetrgblDecodesBrightness := fun s hu => by
  rw [← unq_levelOfBrt]
  exact exec_getrgbl_of_usable hu

/-- Settles O14. -/
theorem setrgbOverwritesColour : Obligations.SetrgbOverwritesColour := fun r g b _ hu =>
  exec_setrgb_of_usable hu r g b

/-- Settles O15, with the level that `quant5` gives. -/
theorem setbrtStoresClampedFloor : Obligations.SetbrtStoresClampedFloor := fun s hu => by
  refine ⟨s.levelOperand 0, isQuant_quant5 _ _, ?_⟩
  rw [← packBrt_eq_or_ofNat]
  exact exec_setbrt_of_usable hu

/-- Settles O16, with the level that `quant5` gives. -/
theorem setrgblOverwritesPixel : Obligations.SetrgblOverwritesPixel := fun r g b s hu => by
  refine ⟨s.levelOperand 0, isQuant_quant5 _ _, ?_⟩
  rw [← packBrt_eq_or_ofNat]
  exact exec_setrgbl_of_usable hu r g b

/-- Settles O18. -/
theorem clrKeepsBrightness : Obligations.ClrKeepsBrightness := fun _ hu => exec_clr_of_usable hu

/-- Settles O19. -/
theorem serbytesInWireOrder : Obligations.SerbytesInWireOrder := fun _ hl => exec_serbytes_of_live hl

/-! ## One operation after another (40_pixel_ops.md R92 to R94)

The normal form of a state that several operations have answered: the pixel's last write, then the draws, then
the last response. -/

section Composition
variable {s : State}

@[simp] theorem State.setThisPixel_thisPixel (p : Pixel) : (s.setThisPixel p).thisPixel = p :=
  Vector.getElem_set_self _

@[simp] theorem State.useLevel_thisPixel (n : Nat) : (s.useLevel n).thisPixel = s.thisPixel := rfl

@[simp] theorem State.finishOk_thisPixel (p : Payload) : (s.finishOk p).thisPixel = s.thisPixel := rfl

@[simp] theorem State.setThisPixel_levelOperand (p : Pixel) (k : Nat) :
    (s.setThisPixel p).levelOperand k = s.levelOperand k := rfl

@[simp] theorem State.finishOk_levelOperand (p : Payload) (k : Nat) :
    (s.finishOk p).levelOperand k = s.levelOperand k := rfl

@[simp] theorem State.setThisPixel_setThisPixel (p q : Pixel) :
    (s.setThisPixel p).setThisPixel q = s.setThisPixel q := by
  simp [State.setThisPixel]

@[simp] theorem State.useLevel_setThisPixel (n : Nat) (p : Pixel) :
    (s.useLevel n).setThisPixel p = (s.setThisPixel p).useLevel n := rfl

@[simp] theorem State.finishOk_setThisPixel (a : Payload) (p : Pixel) :
    (s.finishOk a).setThisPixel p = (s.setThisPixel p).finishOk a := rfl

@[simp] theorem State.finishOk_useLevel (a : Payload) (n : Nat) :
    (s.finishOk a).useLevel n = (s.useLevel n).finishOk a := rfl

@[simp] theorem State.finishOk_finishOk (a b : Payload) : (s.finishOk a).finishOk b = s.finishOk b := rfl

@[simp] theorem State.brtStored_thisPixel : s.brtStored.thisPixel = s.thisPixel.withLevel (s.levelOperand 0) := by
  simp [State.brtStored]

/-- After SETBRT the Driver is still there, and no transmission runs (10_state.md R23). -/
theorem State.brtStored_usable (hl : s.life = .live) : s.brtStored.Usable := ⟨rfl, hl⟩

end Composition

@[simp] theorem Pixel.withLevel_withRgb (p : Pixel) (r g b : Byte) (k : Level5) :
    (p.withLevel k).withRgb r g b = .of r g b k := rfl

@[simp] theorem Pixel.withRgb_withLevel (p : Pixel) (r g b : Byte) (k : Level5) :
    (p.withRgb r g b).withLevel k = .of r g b k := rfl

@[simp] theorem Pixel.decoded_withLevel (p : Pixel) (k : Level5) :
    (p.withLevel k).decoded = .rgbl p.r p.g p.b (unq k) := by
  simp [Pixel.decoded, Pixel.withLevel]

/-- Settles O17: the second operation overwrites what the first has stored, and neither reads what the other
writes. -/
theorem setrgblComposesSetrgbAndSetbrt : Obligations.SetrgblComposesSetrgbAndSetbrt := fun r g b s hu => by
  refine ⟨⟨_, exec_setrgb_of_usable hu r g b, ?_⟩, ⟨_, exec_setbrt_of_usable hu, ?_⟩⟩
  · have ht : ((s.setThisPixel (s.thisPixel.withRgb r g b)).finishOk .none).Usable := ⟨rfl, hu.live⟩
    rw [exec_setbrt_of_usable ht, exec_setrgbl_of_usable hu]
    simp [State.brtStored]
  · rw [exec_setrgb_of_usable (State.brtStored_usable hu.live), exec_setrgbl_of_usable hu]
    simp [State.brtStored]

theorem unq_zero : unq 0 = .fin 0 := by simp [unq_eq]

theorem unq_31 : unq 31 = .fin 1 := by simp [unq_eq]

/-- A level in [0, 1] reads back as floor(31 q) / 31 (40_pixel_ops.md R92 (b)). -/
theorem unq_quant5_of_mem (d : Level5) {q : Rat} (h0 : 0 ≤ q) (h1 : q ≤ 1) :
    unq (quant5 d (.fin q)) = .fin ((⌊31 * q⌋ : Rat) / 31) := by
  rw [unq_eq, ← Int.cast_natCast, quant5_fin_eq_floor, clampRat_of_mem h0 h1]

/-- The level that stands in BRT is stored again (40_pixel_ops.md R92 (d)). -/
theorem exec_setbrt_same_level {s : State} (hu : s.Usable) {k : Level5} (hl : s.lvl = unq k)
    (hb : s.thisPixel.brt = packBrt k) : ∃ v, exec .setbrt s = .next v ∧ v.pix = s.pix := by
  have hk : s.levelOperand 0 = k := by rw [State.levelOperand, hl, quant5_unq]
  have hp : s.thisPixel.withLevel k = s.pix[s.cell] := by rw [Pixel.withLevel, ← hb]; rfl
  exact ⟨_, exec_setbrt_of_usable hu, by simp [State.brtStored, hk, hp]⟩

/-- SETBRT and then GETRGBL: the level stored, `k`, is the one read back, and stored again it changes no pixel. -/
theorem exec_setbrt_getrgbl {s : State} (hu : s.Usable) {k : Level5} (hk : s.levelOperand 0 = k) : ∃ t u,
    exec .setbrt s = .next t ∧ exec .getrgbl t = .next u ∧
    u.out = .response (.ok (.rgbl s.thisPixel.r s.thisPixel.g s.thisPixel.b (unq k))) ∧
    t.pix[s.cell].brt = packBrt k ∧ ∃ v, exec .setbrt { u with lvl := unq k } = .next v ∧ v.pix = t.pix := by
  subst hk
  have hbrt : s.brtStored.thisPixel.brt = packBrt (s.levelOperand 0) := by rw [State.brtStored_thisPixel]; rfl
  refine ⟨_, _, exec_setbrt_of_usable hu, exec_getrgbl_of_usable (State.brtStored_usable hu.live), ?_, hbrt,
    exec_setbrt_same_level ⟨rfl, hu.live⟩ rfl hbrt⟩
  simp

/-- Settles O20: the level read back is `unq k` for the level `k` stored, which is 0 below 0 and 31 above 1. -/
theorem setbrtReadBackLaws : Obligations.SetbrtReadBackLaws := fun s level hu => by
  have hs : ({ s with lvl := level } : State).Usable := ⟨hu.idle, hu.live⟩
  obtain ⟨t, u, ht, hget, hout, hbrt, hagain⟩ :=
    exec_setbrt_getrgbl hs (k := quant5 (Config.nanLevel5 s.draws) level) rfl
  generalize Config.nanLevel5 s.draws = d at hout hbrt hagain
  have hlow (h : quant5 d level = 0) : unq (quant5 d level) = .fin 0 ∧ t.pix[s.cell].brt = 0xE0 :=
    ⟨by rw [h, unq_zero], hbrt.trans (by rw [h]; rfl)⟩
  have hhigh (h : quant5 d level = 31) : unq (quant5 d level) = .fin 1 ∧ t.pix[s.cell].brt = 0xFF :=
    ⟨by rw [h, unq_31], hbrt.trans (by rw [h]; rfl)⟩
  refine ⟨t, u, _, _, _, _, ht, hget, hout, ?_, ?_, ?_, ?_, ?_, hbrt ▸ packBrt_and_marker _, hagain⟩
  · rintro q rfl hq
    exact hlow ((quant5_fin_eq_zero_iff d q).2 (by linarith))
  · rintro q rfl hq
    exact hhigh ((quant5_fin_eq_31_iff d q).2 hq.le)
  · rintro rfl
    exact hlow rfl
  · rintro rfl
    exact hhigh rfl
  · rintro q rfl h0 h1
    exact unq_quant5_of_mem d h0 h1

/-! ## Only the addressed pixel (40_pixel_ops.md R85) -/

/-- The addressed pixel, the draws and the response written, no transmission running. -/
def State.pixelAnswered (s : State) (p : Pixel) (draws seq : Nat) (a : Payload) : State :=
  { s with pix := s.pix.set s.cell p, draws := draws, seq := seq, txBusy := false, out := .response (.ok a) }

section OnePixel
variable {s : State}

/-- An operation that only reads its pixel writes it as it was. -/
theorem State.finishOk_eq_pixelAnswered (a : Payload) :
    s.finishOk a = s.pixelAnswered s.thisPixel s.draws 0 a := by
  simp [State.finishOk, State.respond, State.pixelAnswered, State.thisPixel]

theorem State.answer_eq_pixelAnswered (hb : s.txBusy = false) (a : Payload) :
    s.answer a = s.pixelAnswered s.thisPixel s.draws s.seq a := by
  simp [State.answer, State.pixelAnswered, State.thisPixel, hb]

/-- What a pixel operation writes depends on no pixel but the addressed one: it is the same for every pixel
vector `v` that agrees there. -/
theorem exec_pixelAnswered {i : Instr} (hf : i.format = .p) (hu : s.Usable) : ∃ p draws seq a,
    ∀ v : Vector Pixel 8, v[s.cell] = s.thisPixel →
      exec i { s with pix := v } = .next (({ s with pix := v } : State).pixelAnswered p draws seq a) := by
  have hv (v : Vector Pixel 8) : ({ s with pix := v } : State).Usable := ⟨hu.idle, hu.live⟩
  cases i with
  | getrgb =>
    refine ⟨s.thisPixel, s.draws, 0, .rgb s.thisPixel.r s.thisPixel.g s.thisPixel.b, fun v h => ?_⟩
    rw [exec_getrgb_of_usable (hv v), State.finishOk_eq_pixelAnswered, ← h]; rfl
  | getrgbl =>
    refine ⟨s.thisPixel, s.draws, 0, s.thisPixel.decoded, fun v h => ?_⟩
    rw [exec_getrgbl_of_usable (hv v), State.finishOk_eq_pixelAnswered, ← h]; rfl
  | setrgb r g b =>
    refine ⟨s.thisPixel.withRgb r g b, s.draws, 0, .none, fun v h => ?_⟩
    rw [exec_setrgb_of_usable (hv v), ← h]; rfl
  | setbrt =>
    refine ⟨s.thisPixel.withLevel (s.levelOperand 0), s.drawsAfter 1, 0, .none, fun v h => ?_⟩
    rw [exec_setbrt_of_usable (hv v), ← h]; rfl
  | setrgbl r g b =>
    refine ⟨.of r g b (s.levelOperand 0), s.drawsAfter 1, 0, .none, fun v _ => ?_⟩
    rw [exec_setrgbl_of_usable (hv v)]; rfl
  | clr =>
    refine ⟨s.thisPixel.withRgb 0 0 0, s.draws, 0, .none, fun v h => ?_⟩
    rw [exec_clr_of_usable (hv v), ← h]; rfl
  | serbytes =>
    refine ⟨s.thisPixel, s.draws, s.seq,
      .bytes s.thisPixel.brt s.thisPixel.b s.thisPixel.g s.thisPixel.r, fun v h => ?_⟩
    rw [exec_serbytes_of_live (hv v).live, State.answer_eq_pixelAnswered (hv v).idle, ← h]; rfl
  | _ => cases hf

end OnePixel

/-- Settles O21: `s` itself and every state that differs in the other pixels get the same pixel, the same draws
and the same response. -/
theorem pixelOperationsReachOnePixel : Obligations.PixelOperationsReachOnePixel := fun i s hf hu => by
  obtain ⟨p, draws, seq, a, hexec⟩ := exec_pixelAnswered hf hu
  refine ⟨s.pixelAnswered p draws seq a, a, hexec s.pix rfl, rfl, rfl, ⟨rfl, rfl, rfl, rfl, rfl, rfl, rfl⟩,
    ⟨rfl, rfl, rfl, rfl⟩, ⟨rfl, rfl, rfl, rfl, rfl, rfl⟩, fun j hj => ?_, fun v h => ?_⟩
  · exact Vector.getElem_set_ne s.cell.isLt j.isLt fun h => hj (Fin.ext h.symm)
  · rw [hexec v h]
    simp [State.pixelAnswered]

end Sys2Proof.Machine

/-! # The driver operations on pixel state (41_driver_ops.md)

Layers: the index; each operation in a usable state, once for an index below 8 and once from 8 up; the obligations;
what SETALL leaves for GETPIX and the wire. -/

namespace Sys2Proof.Machine

section DriverOps
variable {s : State} {index : Nat}

/-! ## The index (20_memory.md R46, R49) -/

theorem pixelIndex_of_lt (h : index < 8) : pixelIndex index = some ⟨index, h⟩ := dif_pos h

theorem pixelIndex_of_le (h : 8 ≤ index) : pixelIndex index = none := dif_neg h.not_gt

/-! ## The four operations in a usable state (41_driver_ops.md R101 to R107) -/

theorem exec_getpix_of_lt (hu : s.Usable) (h : index < 8) :
    exec (.getpix index) s = .next (s.finishOk s.pix[index].decoded) := by
  simp [exec, execGetpix, State.whenLive_of_usable hu, pixelIndex_of_lt h]

theorem exec_getpix_of_le (hu : s.Usable) (h : 8 ≤ index) :
    exec (.getpix index) s = .next (s.raise (.indexError index)) := by
  simp [exec, execGetpix, State.whenLive_of_usable hu, pixelIndex_of_le h]

theorem exec_setpix_of_lt (hu : s.Usable) (h : index < 8) (r g b : Byte) : exec (.setpix index r g b) s =
    .next (((s.setPixel ⟨index, h⟩ (.of r g b (s.levelOperand 0))).useLevel 1).finishOk .none) := by
  simp [exec, execSetpix, State.whenLive_of_usable hu, pixelIndex_of_lt h]

theorem exec_setpix_of_le (hu : s.Usable) (h : 8 ≤ index) (r g b : Byte) :
    exec (.setpix index r g b) s = .next (s.finishOk .none) := by
  simp [exec, execSetpix, State.whenLive_of_usable hu, pixelIndex_of_le h]

theorem exec_setall_of_usable (hu : s.Usable) (r g b : Byte) : exec (.setall r g b) s =
    .next (((s.setPixels fun i => .of r g b (s.levelOperand i.val)).useLevel 8).finishOk .none) :=
  State.whenLive_of_usable hu

theorem exec_clrall_of_usable (hu : s.Usable) : exec .clrall s = .next (s.clearAll.finishOk .none) :=
  State.whenLive_of_usable hu

end DriverOps

/-- Settles O22, by the two ranges of the index. -/
theorem getpixReturnsPixelOrIndexError : Obligations.GetpixReturnsPixelOrIndexError := fun index s hu => by
  refine ⟨fun h => ?_, exec_getpix_of_le hu⟩
  rw [← unq_levelOfBrt]
  exact exec_getpix_of_lt hu h

/-- Settles O23, by the two ranges of the index, with the level that `quant5` gives. -/
theorem setpixStoresOrIgnores : Obligations.SetpixStoresOrIgnores := fun index r g b s hu => by
  refine ⟨fun h => ⟨s.levelOperand 0, isQuant_quant5 _ _, ?_⟩, fun h => exec_setpix_of_le hu h r g b⟩
  rw [← packBrt_eq_or_ofNat]
  exact exec_setpix_of_lt hu h r g b

/-- Settles O24: pixel `i` gets what `quant5` gives for use number `i` of the operand. -/
theorem setallStoresEveryPixel : Obligations.SetallStoresEveryPixel := fun r g b s hu => by
  refine ⟨fun i => s.levelOperand i.val, fun _ => isQuant_quant5 _ _, ?_⟩
  simp only [← packBrt_eq_or_ofNat]
  exact exec_setall_of_usable hu r g b

/-- Black at CLEAR_LEVEL is the pixel (0, 0, 0, 0xE6) (41_driver_ops.md R107). -/
theorem State.clearAll_pix (s : State) : s.clearAll.pix = Vector.replicate 8 ⟨0, 0, 0, 0xE6⟩ := by
  have hp : Pixel.of 0 0 0 (quant5 0 Config.clearLevel) = ⟨0, 0, 0, 0xE6⟩ := by
    rw [quant5_clearLevel]; rfl
  rw [State.clearAll, State.setPixels_pix, hp]
  rfl

/-- Settles O26. -/
theorem clrallBlackAtLevelSix : Obligations.ClrallBlackAtLevelSix := fun s hu => by
  rw [← s.clearAll_pix]
  exact exec_clrall_of_usable hu

/-! ## Pixels alike after SETALL (41_driver_ops.md R106, 42_transmit.md R119) -/

/-- Only a NaN operand is quantised by a draw (40_pixel_ops.md R86). -/
theorem quant5_of_ne_nan (d e : Level5) {level : Level} (h : level ≠ .nan) : quant5 d level = quant5 e level := by
  cases level with
  | nan => exact absurd rfl h
  | _ => rfl

/-- For a non-NaN level SETALL stores one pixel eight times. -/
theorem exec_setall_of_ne_nan {s : State} (hu : s.Usable) (hn : s.lvl ≠ .nan) (r g b : Byte) : ∃ t,
    exec (.setall r g b) s = .next t ∧ t.Usable ∧
    ∀ (i : Nat) (h : i < 8), t.pix[i] = .of r g b (s.levelOperand 0) := by
  refine ⟨_, exec_setall_of_usable hu r g b, ⟨rfl, hu.live⟩, fun i h => ?_⟩
  have hk : s.levelOperand i = s.levelOperand 0 := quant5_of_ne_nan _ _ hn
  simp [hk]

@[simp] theorem Pixel.decoded_of (r g b : Byte) (k : Level5) : (Pixel.of r g b k).decoded = .rgbl r g b (unq k) := by
  simp [Pixel.decoded, Pixel.of]

/-- A frame is made from its pixel alone (42_transmit.md R118, R119). -/
theorem frame_congr {pix : Vector Pixel 8} {p q : Fin 8} (h : pix[p] = pix[q]) : frame pix p = frame pix q := by
  simp only [frame, wirebyte, h]

/-- Settles O25: GETPIX and the frame of pixel `i` read nothing but PIX[i], and the eight are one. -/
theorem setallMakesPixelsAlike : Obligations.SetallMakesPixelsAlike := fun r g b s hu hn => by
  obtain ⟨t, ht, htu, hpix⟩ := exec_setall_of_ne_nan hu hn r g b
  refine ⟨t, s.levelOperand 0, ht, isQuant_quant5 _ _, fun i hi => ⟨_, exec_getpix_of_lt htu hi, ?_⟩, fun p => ?_⟩
  · simp [hpix i hi]
  · exact frame_congr ((hpix p.val p.isLt).trans (hpix 0 (by decide)).symm)

end Sys2Proof.Machine

/-! # TRANSMIT (42_transmit.md)

Layers: what each write number is; the sequencer's step; the machine's steps while a transmission runs; a
transmission as a whole, ended or aborted; the pseudocode's writes as the numbered list; the levels that these
writes put on the recorder. Each obligation stands after the layer it needs. -/

namespace Sys2Proof.Machine

/-! ## What each write number is (42_transmit.md R121, R129) -/

section WriteNumbers
variable {pix : Vector Pixel 8} {n : Nat}

theorem ev_data_iff : (ev pix n).1 = .data ↔ n = 0 ∨ n = 833 ∨ 65 ≤ n ∧ n ≤ 832 ∧ (n - 65) % 3 = 0 := by
  simp only [ev]
  split_ifs <;> simp <;> omega

theorem ev_rising_iff : ev pix n = (.clk, true) ↔
    n ≤ 64 ∧ n % 2 = 1 ∨ 65 ≤ n ∧ n ≤ 832 ∧ (n - 65) % 3 = 1 ∨ 833 < n ∧ n % 2 = 0 := by
  simp only [ev]
  split_ifs <;> simp <;> omega

theorem ev_falling_iff : ev pix n = (.clk, false) ↔
    0 < n ∧ n ≤ 64 ∧ n % 2 = 0 ∨ 65 ≤ n ∧ n ≤ 832 ∧ (n - 65) % 3 = 2 ∨ 833 < n ∧ n % 2 = 1 := by
  simp only [ev]
  split_ifs <;> simp <;> omega

end WriteNumbers

/-- Settles O33: after each write number of one kind comes one of the next kind. -/
theorem dataIsStableDuringPulses : Obligations.DataIsStableDuringPulses := by
  intro pix n hn
  refine ⟨fun h => ?_, fun v h => ?_⟩
  · have hrise := ev_rising_iff.1 h
    exact ⟨by omega, ev_falling_iff.2 (by omega)⟩
  · have hdata := ev_data_iff.1 (congrArg Prod.fst h)
    exact ⟨by omega, ev_rising_iff.2 (by omega)⟩

/-! ## The sequencer's step (42_transmit.md R124, 44_gpio_sim.md R162, R163) -/

section SequencerStep
variable {s : State}

theorem State.txStep_line (s : State) : s.txStep.line = setLevel (s.lineNo (ev s.pix s.seq).1)
    (if s.fail.fails s.calls then Config.failedWriteLevel s.calls else (ev s.pix s.seq).2) s.line := by
  obtain ⟨n, b, o, h, -⟩ := s.txStep_cases
  rw [h]; rfl

theorem State.txStep_hist (s : State) :
    s.txStep.hist = if s.hist = [] then [] else s.hist ++ [s.txStep.levels] := by
  obtain ⟨n, b, o, h, -⟩ := s.txStep_cases
  rw [h]; rfl

/-- A transmission that goes on stands at the next write. -/
theorem State.txStep_seq_of_busy (h : s.txStep.txBusy = true) : s.seq + 1 ≠ 906 ∧ s.txStep.seq = s.seq + 1 := by
  obtain ⟨n, b, o, heq, ⟨-, hn, rfl, -⟩ | ⟨-, -, -, rfl, -⟩ | ⟨-, -, rfl, -⟩⟩ := s.txStep_cases
  · exact ⟨hn, by rw [heq]⟩
  · rw [heq] at h; cases h
  · rw [heq] at h; cases h

end SequencerStep

/-- Settles O36: the step is the sequencer's, one line write, and its three ways to go on exclude each other. -/
theorem sequencerStepWritesOnce : Obligations.SequencerStepWritesOnce := by
  intro s hu hb
  refine ⟨s.txStep, if s.fail.fails s.calls then Config.failedWriteLevel s.calls else (ev s.pix s.seq).2,
    step_of_busy hu hb, s.txStep_frame, s.txStep_calls, s.txStep_trace, ?_, fun ok => ?_, fun n hn => ?_, s.txStep_hist,
    fun ok hn => ?_, fun ok hn => ?_, fun bad => ?_⟩
  · rw [s.txStep_line, levelAt_setLevel_self]
  · rw [ok]; rfl
  · rw [s.txStep_line, levelAt_setLevel_ne _ _ hn]
  · rw [State.txStep_advance ok hn]; exact ⟨rfl, hb, rfl⟩
  · rw [State.txStep_last ok hn]; exact ⟨rfl, rfl, rfl⟩
  · rw [State.txStep_abort bad]; exact ⟨rfl, rfl, rfl⟩

/-! ## The machine's steps while a transmission runs (42_transmit.md R124) -/

section Steps
variable {s t : State}

theorem run_succ_of_step (h : step s = .next t) (k : Nat) :
    Host.Core.run Sys2Proof.core (k + 1) s = Host.Core.run Sys2Proof.core k t := by
  have hcore : Sys2Proof.core.step s = .next t := h
  simp only [Host.Core.run, hcore]

/-- With no command to come the block waits (70_reset_and_hazards.md R207). -/
theorem step_of_waiting (hu : s.unitPort = none) (hb : s.txBusy = false) (hs : s.script = []) :
    step s = .next s := by
  simp [step, stepBody, hu, hb, hs]

/-- The machine's steps are the sequencer's until it rests, and then it waits. -/
theorem run_eq_txRun (hu : s.unitPort = none) (hs : s.script = []) (k : Nat) :
    Host.Core.run Sys2Proof.core k s = .next (s.txRun k) := by
  induction k generalizing s with
  | zero => rfl
  | succ k ih =>
    cases hb : s.txBusy with
    | false =>
      rw [run_succ_of_step (step_of_waiting hu hb hs), ih hu hs, State.txRun_idle _ hb, State.txRun_idle _ hb]
    | true =>
      rw [run_succ_of_step (step_of_busy hu hb), State.txRun_busy _ hb,
        ih (s.txStep_frame.env.unitPort.trans hu) (s.txStep_frame.env.script.trans hs)]

/-- Each step leaves one write fewer to make, or ends the transmission. -/
theorem run_reaches_idle (hu : s.unitPort = none) (hb : s.txBusy = true) (hn : s.seq < 906) :
    ∃ k t, k ≤ 906 - s.seq ∧ Host.Core.run Sys2Proof.core k s = .next t ∧ t.txBusy = false := by
  induction hm : 906 - s.seq generalizing s with
  | zero => omega
  | succ m ih =>
    have hrun := run_succ_of_step (step_of_busy hu hb)
    cases hb' : s.txStep.txBusy with
    | false => exact ⟨1, s.txStep, by omega, hrun 0, hb'⟩
    | true =>
      obtain ⟨hne, hseq⟩ := State.txStep_seq_of_busy hb'
      obtain ⟨k, t, hk, ht, hidle⟩ :=
        ih (s.txStep_frame.env.unitPort.trans hu) hb' (by omega) (by omega)
      exact ⟨k + 1, t, by omega, (hrun k).trans ht, hidle⟩

end Steps

/-- Settles O60: the invariant keeps SEQ below 906, and each step brings it nearer. -/
theorem busyBlockAlwaysSteps : Obligations.BusyBlockAlwaysSteps := fun s hi hu hb =>
  ⟨⟨s.txStep, step_of_busy hu hb, s.txStep_calls⟩, run_reaches_idle hu hb (hi.seqBusy hb).1⟩

theorem exec_transmit_of_usable {s : State} (hu : s.Usable) : exec .transmit s = .next s.transmit :=
  State.whenLive_of_usable hu

/-- A request for a TRANSMIT in single steps is accepted, without a write (log 11). -/
theorem step_of_stepwise_transmit {s : State} {q : Request} {rest : List Request} (hu : s.Usable)
    (hp : s.unitPort = none) (hs : s.script = q :: rest) (hq : q.stepwise = true)
    (hd : decode (.d q.word) = .ok .transmit) : step s = .next (s.present q rest).txAccept := by
  change decodeD q.word = .ok .transmit at hd
  have hlive : (s.present q rest).Usable := ⟨hu.idle, hu.live⟩
  rw [step_of_request hp hu.idle hs, takeRequest, hd]
  simp [runRequest, hq, acceptTransmit, State.whenLive_of_usable hlive]

/-- Settles O37: the first step is the acceptance, and the other 906 are the sequencer's, or waiting. -/
theorem stepwiseTransmitEqualsBigStep : Obligations.StepwiseTransmitEqualsBigStep := by
  intro s q hu hp hs hq hd
  have hstep := step_of_stepwise_transmit hu hp hs hq hd
  refine ⟨hstep, ?_⟩
  rw [run_succ_of_step hstep 906, run_eq_txRun (s := (s.present q []).txAccept) hp rfl]
  exact (exec_transmit_of_usable (s := s.present q []) ⟨hu.idle, hu.live⟩).symm

/-! ## A transmission as a whole (42_transmit.md R123, R126, R131) -/

theorem State.lineNo_ne {s : State} (hne : s.lineNo .data ≠ s.lineNo .clk) {l m : Line} (hlm : l ≠ m) :
    s.lineNo l ≠ s.lineNo m := by
  cases l <;> cases m
  · exact absurd rfl hlm
  · exact hne
  · exact hne.symm
  · exact absurd rfl hlm

theorem levelAfter_succ (s : State) (l : Line) (n : Nat) : levelAfter s l (n + 1) =
    if (ev s.pix n).1 = l then some (ev s.pix n).2 else levelAfter s l n := by
  by_cases h : (ev s.pix n).1 = l <;> simp [levelAfter, lastWrite, h]

/-- Where a write to line `l` has no other after it, its value is what `l` is left with. -/
theorem levelAfter_of_last {s : State} {l : Line} {n : Nat} (hl : (ev s.pix n).1 = l) (k : Nat)
    (hlast : ∀ m, n < m → m < n + 1 + k → (ev s.pix m).1 ≠ l) :
    levelAfter s l (n + 1 + k) = some (ev s.pix n).2 := by
  induction k with
  | zero => rw [Nat.add_zero, levelAfter_succ, if_pos hl]
  | succ k ih =>
    rw [← Nat.add_assoc, levelAfter_succ, if_neg (hlast _ (by omega) (by omega))]
    exact ih fun m hm hmk => hlast m hm (by omega)

/-- Write 833 is the last to the data line and write 905 the last to the clock line, and both are of a 0
(10_state.md R25). -/
theorem levelAfter_all (s : State) (l : Line) : levelAfter s l 906 = some false := by
  cases l with
  | data =>
    refine levelAfter_of_last (n := 833) rfl 72 fun m hm _ hdata => ?_
    have hm833 := ev_data_iff.1 hdata
    omega
  | clk => exact levelAfter_of_last (n := 905) rfl 0 fun m hm _ => by omega

section Transmission
variable {s t : State} {n f : Nat}

/-- The line that a step does not write keeps its level. -/
theorem State.txStep_levelAt_ne (hne : s.lineNo .data ≠ s.lineNo .clk) {l : Line} (hl : l ≠ (ev s.pix s.seq).1) :
    levelAt (s.lineNo l) s.txStep.line = levelAt (s.lineNo l) s.line := by
  rw [s.txStep_line, levelAt_setLevel_ne _ _ (State.lineNo_ne hne hl)]

/-- The line that a step writes holds the value, where the write does not fail. -/
theorem State.txStep_levelAt_self (ok : s.fail.fails s.calls = false) :
    levelAt (s.lineNo (ev s.pix s.seq).1) s.txStep.line = some (ev s.pix s.seq).2 := by
  rw [s.txStep_line, levelAt_setLevel_self, ok]; rfl

/-- A step leaves a begun HIST at the present levels (44_gpio_sim.md R163). -/
theorem State.txStep_histCurrent (h : s.hist ≠ []) : s.txStep.HistCurrent := by
  rw [State.HistCurrent, s.txStep_hist, if_neg h, List.getLast?_concat]

theorem State.HistCurrent.txRun (h : s.HistCurrent) (n : Nat) : (s.txRun n).HistCurrent := by
  induction n generalizing s with
  | zero => exact h
  | succ n ih =>
    cases hb : s.txBusy with
    | false => rw [State.txRun_idle _ hb]; exact h
    | true =>
      rw [State.txRun_busy _ hb]
      exact ih (State.txStep_histCurrent fun hnil => by simp [State.HistCurrent, hnil] at h)

theorem State.transmit_histCurrent (h : s.hist ≠ []) : s.transmit.HistCurrent :=
  State.HistCurrent.txRun (State.txStep_histCurrent (s := s.txAccept) h) 905

/-- After `n` writes of a TRANSMIT the next one is `ev n`. -/
theorem SentOn.txAccept_ev (h : SentOn s.txAccept n t) : ev t.pix t.seq = ev s.pix n := by
  rw [h.frame.pix, h.seq, State.txAccept_pix, State.txAccept_seq, Nat.zero_add]

/-- After the first `n` writes, all ok, each line holds the last value written to it (10_state.md R25). -/
theorem State.txAccept_levelAt (hf : s.NoFail n) (hn : n ≤ 906) (hne : s.lineNo .data ≠ s.lineNo .clk) (l : Line) :
    levelAt (s.lineNo l) (s.txAccept.txRun n).line = levelAfter s l n := by
  induction n with
  | zero => rfl
  | succ n ih =>
    have h : SentOn s.txAccept n (s.txAccept.txRun n) :=
      State.txRun_sentOn rfl (hf.mono n.le_succ) (by simpa using hn)
    have hno (m : Line) : (s.txAccept.txRun n).lineNo m = s.lineNo m := h.frame.lineNo m
    have hev := h.txAccept_ev
    rw [State.txRun_succ h.busy, levelAfter_succ, ← ih (hf.mono n.le_succ) (by omega), ← hno l]
    by_cases hl : (ev s.pix n).1 = l
    · rw [if_pos hl, ← hl, ← hev]
      exact State.txStep_levelAt_self (h.next_ok hf)
    · rw [if_neg hl]
      exact State.txStep_levelAt_ne (by rw [hno, hno]; exact hne) (by rw [hev]; exact Ne.symm hl)

/-- Accepting changes nothing the frame names. -/
theorem WriteFrame.of_txAccept (h : WriteFrame s.txAccept t) : WriteFrame s t :=
  ((WriteFrame.refl s).withSequencer 0 true .nothing).trans h

theorem okEventsFrom_zero (pix : Vector Pixel 8) (n : Nat) : okEventsFrom pix 0 n = okEvents pix n := by
  simp [okEventsFrom, okEvents]

/-- From `s` to `t` the transmission has made `f` writes, all ok, and ended at the next, which failed. -/
structure Aborted (s : State) (f : Nat) (t : State) : Prop extends TransmitFrame s t where
  calls : t.calls = s.calls + f + 1
  trace : t.trace = s.trace ++ okEventsFrom s.pix s.seq f ++ [failEvent s.pix (s.seq + f)]
  out : t.out = .response (.transmitError (stage (s.seq + f)))

theorem SentOn.txStep_aborted (h : SentOn s f t) (hf : s.FirstFail f) : Aborted s f t.txStep := by
  have bad : t.fail.fails t.calls = true := by rw [h.frame.env.fail, h.calls]; exact hf.2
  have habort := State.txStep_abort bad
  refine ⟨⟨h.frame.trans t.txStep_frame, ?_, ?_⟩, ?_, ?_, ?_⟩
  · rw [habort]; rfl
  · rw [habort]; rfl
  · rw [t.txStep_calls, h.calls]
  · rw [t.txStep_trace, bad, h.frame.pix, h.seq, h.trace]; rfl
  · rw [habort, h.seq]; rfl

/-- The step at which the first write fails is the last one (42_transmit.md R126). -/
theorem State.txRun_of_firstFail (hb : s.txBusy = true) (hf : s.FirstFail f) (hfn : f < n) (hn : s.seq + f < 906) :
    SentOn s f (s.txRun f) ∧ s.txRun n = (s.txRun f).txStep := by
  have h := State.txRun_sentOn hb hf.1 hn
  refine ⟨h, ?_⟩
  obtain ⟨k, rfl⟩ := Nat.exists_eq_add_of_lt hfn
  rw [Nat.add_assoc, State.txRun_add, State.txRun_busy _ h.busy, State.txRun_idle _ (h.txStep_aborted hf).idle]

theorem State.txRun_aborted (hb : s.txBusy = true) (hf : s.FirstFail f) (hfn : f < n) (hn : s.seq + f < 906) :
    Aborted s f (s.txRun n) := by
  obtain ⟨h, heq⟩ := State.txRun_of_firstFail hb hf hfn hn
  rw [heq]
  exact h.txStep_aborted hf

/-- A TRANSMIT whose calls do not fail sends all 906 writes and answers Ok. -/
theorem State.transmit_sent (hf : s.NoFail 906) :
    s.transmit.trace = s.trace ++ okEvents s.pix 906 ∧ s.transmit.calls = s.calls + 906 ∧
      s.transmit.out = .response (.ok .none) ∧ TransmitFrame s s.transmit := by
  obtain ⟨h, hseq, hidle, hout⟩ := State.txRun_sent_last (s := s.txAccept) (n := 905) rfl hf rfl
  refine ⟨?_, h.calls, hout, h.frame.of_txAccept, hseq, hidle⟩
  rw [← okEventsFrom_zero]
  exact h.trace

/-- Both lines are low after it (10_state.md R25). -/
theorem State.transmit_levelAt (hf : s.NoFail 906) (hne : s.lineNo .data ≠ s.lineNo .clk) (l : Line) :
    levelAt (s.lineNo l) s.transmit.line = some false :=
  (State.txAccept_levelAt hf le_rfl hne l).trans (levelAfter_all s l)

/-- A TRANSMIT whose write `f` is the first to fail. -/
theorem State.transmit_aborted (hf : s.FirstFail f) (hf906 : f < 906) :
    s.transmit.trace = s.trace ++ okEvents s.pix f ++ [failEvent s.pix f] ∧
      s.transmit.calls = s.calls + f + 1 ∧ s.transmit.out = .response (.transmitError (stage f)) ∧
      TransmitFrame s s.transmit := by
  have h : Aborted s.txAccept f s.transmit := State.txRun_aborted rfl hf hf906 (by simpa using hf906)
  have hseq : s.txAccept.seq + f = f := Nat.zero_add f
  refine ⟨?_, h.calls, by rw [h.out, hseq], h.of_txAccept, h.seq, h.idle⟩
  rw [h.trace, hseq, ← okEventsFrom_zero]
  rfl

/-- What a failed write `f` leaves on the two lines: some level on its own, and on the other what the writes
before it have left (10_state.md R25). -/
theorem State.transmit_aborted_levelAt (hf : s.FirstFail f) (hf906 : f < 906) :
    (∃ v, levelAt (s.lineNo (ev s.pix f).1) s.transmit.line = some v) ∧
      (s.lineNo .data ≠ s.lineNo .clk → ∀ l, l ≠ (ev s.pix f).1 →
        levelAt (s.lineNo l) s.transmit.line = levelAfter s l f) := by
  obtain ⟨h, heq⟩ :=
    State.txRun_of_firstFail (s := s.txAccept) (f := f) (n := 906) rfl hf hf906 (by simpa using hf906)
  have hno (m : Line) : (s.txAccept.txRun f).lineNo m = s.lineNo m := h.frame.lineNo m
  have hev := h.txAccept_ev
  rw [State.transmit, heq]
  refine ⟨?_, fun hne l hl => ?_⟩
  · rw [State.txStep_line, hno, hev, levelAt_setLevel_self]
    exact ⟨_, rfl⟩
  · rw [← State.txAccept_levelAt hf.1 hf906.le hne, ← hno l]
    exact State.txStep_levelAt_ne (by rw [hno, hno]; exact hne) (by rw [hev]; exact hl)

end Transmission

/-- Settles O28: the run of the sequencer ends with write 905, or with the first write that fails. -/
theorem transmitBigStep : Obligations.TransmitBigStep := by
  intro s hu
  refine ⟨fun hf => ?_, fun f hf906 hf => ?_⟩
  · obtain ⟨htrace, hcalls, hout, hframe⟩ := State.transmit_sent hf
    exact ⟨_, exec_transmit_of_usable hu, htrace, hcalls, hout, hframe, State.transmit_histCurrent,
      fun hne => ⟨State.transmit_levelAt hf hne .data, State.transmit_levelAt hf hne .clk⟩⟩
  · obtain ⟨htrace, hcalls, hout, hframe⟩ := State.transmit_aborted hf hf906
    exact ⟨_, exec_transmit_of_usable hu, htrace, hcalls, hout, hframe, State.transmit_histCurrent,
      State.transmit_aborted_levelAt hf hf906⟩

/-- Settles O38: the events appended depend on the pixels alone. -/
theorem transmitIsStatelessBetweenCalls : Obligations.TransmitIsStatelessBetweenCalls := by
  intro s u hs hu hpix hfs hfu
  have hadded {w : State} (hf : w.NoFail 906) : traceSince w w.transmit = okEvents w.pix 906 := by
    rw [traceSince, (State.transmit_sent hf).1, List.drop_left]
  refine ⟨_, _, exec_transmit_of_usable hs, exec_transmit_of_usable hu, ?_, ?_⟩
  · rw [hadded hfs, hadded hfu, hpix]
  · rw [hadded hfs, okEvents, List.length_map, List.length_range]

/-! ## The stages and the frames that a failed write ends (60_exceptions.md R184, 42_transmit.md R126) -/

theorem stage_sof {n : Nat} (hn : n ≤ 64) : stage n = .sof := if_pos hn

theorem stage_eof {n : Nat} (hn : 833 ≤ n) : stage n = .eof := by
  rw [stage, if_neg (by omega), if_neg (by omega)]

theorem stage_pixel (p : Fin 8) {j : Nat} (hj : j < 96) :
    stage (65 + 96 * p.val + j) = .pixel p (Fin.ofNat 4 (j / 24)) := by
  have hp : Fin.ofNat 8 ((65 + 96 * p.val + j - 65) / 96) = p := Fin.ext (by rw [Fin.val_ofNat]; omega)
  have hb : (65 + 96 * p.val + j - 65) % 96 = j := by omega
  rw [stage, if_neg (by omega), if_pos (by omega), hp, hb]

/-- Settles O41: a frame that is due ends with the step at which its first write fails. -/
theorem wireFramesStopAtFirstFailure : Obligations.WireFramesStopAtFirstFailure := by
  intro s f hb hf
  refine ⟨fun hs hn => ?_, fun p hs hn => ?_, fun hs hn => ?_⟩
  · have h := State.txRun_aborted hb hf hn (by omega)
    refine ⟨_, exec_sof_of_due hb hs, h.toTransmitFrame, ?_, h.calls, ?_⟩
    · rw [h.out, stage_sof (by omega)]
    · rw [h.trace, hs, Nat.zero_add]
  · have h := State.txRun_aborted hb hf hn (by omega)
    refine ⟨_, exec_ledframe_of_due hb hs, h.toTransmitFrame, ?_, h.calls, h.trace⟩
    rw [h.out, hs, stage_pixel p hn]
  · have h := State.txRun_aborted hb hf hn (by omega)
    refine ⟨_, exec_eof_of_due hb hs, h.toTransmitFrame, ?_, h.calls, ?_⟩
    · rw [h.out, stage_eof (by omega)]
    · rw [h.trace, hs]

/-! ## The pseudocode's writes as the numbered list (42_transmit.md R115, R121) -/

/-- The `k` writes of the numbered list from number `n` on. -/
def numberedWrites (pix : Vector Pixel 8) (n k : Nat) : List Write :=
  (List.range k).map fun j => ⟨stage (n + j), (ev pix (n + j)).1, (ev pix (n + j)).2⟩

/-- The write that an event records, made in stage `st`. -/
def Event.write (st : Stage) (e : Event) : Write := ⟨st, e.line, e.value⟩

section Numbering
variable {pix : Vector Pixel 8}

theorem numberedWrites_add (n j k : Nat) :
    numberedWrites pix n (j + k) = numberedWrites pix n j ++ numberedWrites pix (n + j) k := by
  simp [numberedWrites, List.range_add, Nat.add_assoc]

theorem numberedWrites_succ (n k : Nat) : numberedWrites pix n (k + 1) =
    ⟨stage n, (ev pix n).1, (ev pix n).2⟩ :: numberedWrites pix (n + 1) k := by
  rw [Nat.add_comm k 1, numberedWrites_add]
  rfl

/-- Writes of one stage are those that their events record. -/
theorem numberedWrites_of_stage {n k : Nat} {st : Stage} (h : ∀ j, j < k → stage (n + j) = st) :
    numberedWrites pix n k = (okEventsFrom pix n k).map (Event.write st) := by
  rw [numberedWrites, okEventsFrom, List.map_map]
  refine List.map_congr_left fun j hj => ?_
  rw [h j (List.mem_range.1 hj)]
  rfl

theorem numberedWrites_sof : numberedWrites pix 0 65 = sofWrites := by
  rw [numberedWrites_of_stage fun j hj => stage_sof (by omega), okEventsFrom_sof]
  rfl

theorem numberedWrites_eof : numberedWrites pix 833 73 = eofWrites := by
  rw [numberedWrites_of_stage fun j hj => stage_eof (by omega), okEventsFrom_eof]
  rfl

/-- A byte of a pixel's frame is sent bit by bit, the most significant first (42_transmit.md R119). -/
theorem okEventsFrom_byte (p : Fin 8) (b : Fin 4) : okEventsFrom pix (65 + 96 * p.val + 24 * b.val) 24 =
    (bits8 (wirebyte pix p b)).flatMap fun v => [⟨.data, v, true⟩, ⟨.clk, true, true⟩, ⟨.clk, false, true⟩] := by
  have hbits (v : Byte) : bits8 v = (List.range 8).map fun i => v.getLsbD (7 - i) := rfl
  rw [hbits, List.flatMap_map, okEventsFrom_mul pix _ 8 3]
  refine List.flatMap_congr fun i hi => ?_
  have hi := List.mem_range.1 hi
  have hj : 8 * b.val + i < 32 := by omega
  have hbyte : Fin.ofNat 4 ((8 * b.val + i) / 8) = b := Fin.ext (by rw [Fin.val_ofNat]; omega)
  have hbit := wirebyte_getLsbD pix p hj
  rw [hbyte, show (8 * b.val + i) % 8 = i by omega] at hbit
  have hstart : 65 + 96 * p.val + 24 * b.val + i * 3 = 65 + 96 * p.val + (8 * b.val + i) * 3 := by ring
  have hdata := ev_pixel pix p (t := 0) hj (by decide)
  have hhigh := ev_pixel pix p (t := 1) hj (by decide)
  have hlow := ev_pixel pix p (t := 2) hj (by decide)
  rw [Nat.add_zero] at hdata
  simp [okEventsFrom, List.range_succ, hstart, hdata, hhigh, hlow, hbit]

theorem numberedWrites_byte (p : Fin 8) (b : Fin 4) :
    numberedWrites pix (65 + 96 * p.val + 24 * b.val) 24 = byteWrites p b (wirebyte pix p b) := by
  have hstage (j : Nat) (hj : j < 24) : stage (65 + 96 * p.val + 24 * b.val + j) = .pixel p b := by
    have hb : Fin.ofNat 4 ((24 * b.val + j) / 24) = b := Fin.ext (by rw [Fin.val_ofNat]; omega)
    rw [Nat.add_assoc, stage_pixel p (by omega), hb]
  rw [numberedWrites_of_stage hstage, okEventsFrom_byte, List.map_flatMap]
  rfl

theorem numberedWrites_pixel (p : Fin 8) : numberedWrites pix (65 + 96 * p.val) 96 = pixelWrites pix p := by
  have h0 : numberedWrites pix (65 + 96 * p.val) 24 = _ := numberedWrites_byte p 0
  have h1 : numberedWrites pix (65 + 96 * p.val + 24) 24 = _ := numberedWrites_byte p 1
  have h2 : numberedWrites pix (65 + 96 * p.val + (24 + 24)) 24 = _ := numberedWrites_byte p 2
  have h3 : numberedWrites pix (65 + 96 * p.val + (24 + 24 + 24)) 24 = _ := numberedWrites_byte p 3
  rw [show 96 = 24 + 24 + 24 + 24 from rfl, numberedWrites_add, numberedWrites_add, numberedWrites_add, h0, h1, h2, h3]
  simp [pixelWrites, frameBytes]

theorem numberedWrites_pixels {k : Nat} (hk : k ≤ 8) :
    numberedWrites pix 65 (96 * k) = (chain.take k).flatMap (pixelWrites pix) := by
  induction k with
  | zero => rfl
  | succ k ih =>
    rw [Nat.mul_succ, numberedWrites_add, ih (Nat.le_of_succ_le hk), take_succ_chain hk, List.flatMap_append,
      numberedWrites_pixel ⟨k, hk⟩]
    simp

theorem protocolWrites_eq_numbered (pix : Vector Pixel 8) : protocolWrites pix = numberedWrites pix 0 906 := by
  have hpixels : numberedWrites pix 65 768 = chain.flatMap (pixelWrites pix) := numberedWrites_pixels (k := 8) le_rfl
  rw [protocolWrites, ← numberedWrites_sof (pix := pix), ← hpixels, ← numberedWrites_eof (pix := pix),
    ← numberedWrites_add 0 65 768, ← numberedWrites_add 0 833 73]

/-! How many writes go to each line (42_transmit.md R115): one of each zero frame and of each bit to the data line. -/

theorem countP_protocolWrites_data (pix : Vector Pixel 8) :
    (protocolWrites pix).countP (·.line = .data) = 258 := by
  have hsof : sofWrites.countP (·.line = .data) = 1 := rfl
  have heof : eofWrites.countP (·.line = .data) = 1 := rfl
  have hpixel (p : Fin 8) : (pixelWrites pix p).countP (·.line = .data) = 32 := rfl
  simp [protocolWrites, chain, hsof, heof, hpixel]

theorem countP_protocolWrites_clk (pix : Vector Pixel 8) :
    (protocolWrites pix).countP (·.line = .clk) = 648 := by
  have hsof : sofWrites.countP (·.line = .clk) = 64 := rfl
  have heof : eofWrites.countP (·.line = .clk) = 72 := rfl
  have hpixel (p : Fin 8) : (pixelWrites pix p).countP (·.line = .clk) = 64 := rfl
  simp [protocolWrites, chain, hsof, heof, hpixel]

end Numbering

/-- How performed writes end does not depend on where the sequencer stood: the response overwrites it. -/
theorem endWrites_withSequencer (s : State) (ws : List Write) (n : Nat) (b : Bool) (o : Output) :
    State.endWrites (({ s with seq := n, txBusy := b, out := o } : State).runWrites ws) =
      State.endWrites (s.runWrites ws) := by
  induction ws generalizing s with
  | nil => rfl
  | cons w ws ih =>
    cases hf : s.fail.fails s.calls with
    | false =>
      rw [State.runWrites_ok w ws hf, State.runWrites_ok (s := { s with seq := n, txBusy := b, out := o }) w ws hf]
      exact ih (s.lineWrite w.line w.value).1
    | true =>
      rw [State.runWrites_abort w ws hf,
        State.runWrites_abort (s := { s with seq := n, txBusy := b, out := o }) w ws hf]
      rfl

/-- The sequencer performs the rest of the numbered list (42_transmit.md R124). -/
theorem State.txRun_eq_endWrites {s : State} {k : Nat} (hb : s.txBusy = true) (hk : s.seq + (k + 1) = 906) :
    s.txRun (k + 1) = State.endWrites (s.runWrites (numberedWrites s.pix s.seq (k + 1))) := by
  induction k generalizing s with
  | zero =>
    rw [State.txRun_busy _ hb, numberedWrites_succ]
    cases hf : s.fail.fails s.calls with
    | false => rw [State.runWrites_ok _ _ hf, State.txStep_last hf hk]; rfl
    | true => rw [State.runWrites_abort _ _ hf, State.txStep_abort hf]; rfl
  | succ k ih =>
    rw [State.txRun_busy _ hb, numberedWrites_succ]
    cases hf : s.fail.fails s.calls with
    | false =>
      rw [State.runWrites_ok _ _ hf, State.txStep_advance hf (by omega)]
      refine (ih (s := { (s.lineWrite (ev s.pix s.seq).1 (ev s.pix s.seq).2).1 with seq := s.seq + 1 }) hb
        (by change s.seq + 1 + (k + 1) = 906; omega)).trans ?_
      exact endWrites_withSequencer (s.lineWrite (ev s.pix s.seq).1 (ev s.pix s.seq).2).1 _ _ _ _
    | true =>
      rw [State.runWrites_abort _ _ hf, State.txStep_abort hf, State.txRun_idle _ rfl]
      rfl

/-- TRANSMIT performs R115's pseudocode (42_transmit.md R126). -/
theorem State.transmit_eq_endWrites (s : State) :
    s.transmit = State.endWrites (s.runWrites (protocolWrites s.pix)) := by
  rw [protocolWrites_eq_numbered]
  exact (State.txRun_eq_endWrites (s := s.txAccept) (k := 905) rfl rfl).trans (endWrites_withSequencer s _ _ _ _)

/-- Settles O31: each part of the pseudocode is a stretch of the numbered list, which the sequencer performs. -/
theorem protocolIsTheNumberedList : Obligations.ProtocolIsTheNumberedList := by
  refine ⟨fun pix => ⟨?_, countP_protocolWrites_data pix, countP_protocolWrites_clk pix, fun n hn => ?_⟩,
    fun s hu => ?_⟩
  · simp [protocolWrites_eq_numbered, numberedWrites]
  · simp [protocolWrites_eq_numbered, numberedWrites, hn]
  · rw [exec_transmit_of_usable hu, s.transmit_eq_endWrites]

/-! ## The levels that writes put on the recorder (44_gpio_sim.md R163, R165) -/

/-- The levels (data, clock) after a successful write. -/
def Write.drive (a : Bit × Bit) (w : Write) : Bit × Bit :=
  match w.line with
  | .data => (w.value, a.2)
  | .clk => (a.1, w.value)

/-- The pair `a` and the pairs that successful writes add to HIST after it. -/
def waveform (a : Bit × Bit) : List Write → List (Bit × Bit)
  | [] => [a]
  | w :: ws => a :: waveform (w.drive a) ws

section Recorder
variable {s : State}

theorem State.levelOf_of_isSome {n : Nat} {t : State} (h : levelAt n t.line = levelAt n s.line)
    (hsome : (levelAt n s.line).isSome = true) : t.levelOf n = s.levelOf n := by
  obtain ⟨v, hv⟩ := Option.isSome_iff_exists.1 hsome
  rw [State.levelOf, State.levelOf, h, hv]
  rfl

/-- A line write keeps the wiring. -/
theorem State.Wired.lineWrite (h : s.Wired) (l : Line) (v : Bit) : (s.lineWrite l v).1.Wired := by
  have hn : (levelAt (s.lineNo l) s.line).isSome = true := by
    rw [h.lineNo_eq]
    cases l with
    | data => exact h.dataLevel
    | clk => exact h.clkLevel
  exact ⟨h.hdata, h.hclk, h.distinct, (s.setValue_levelAt_isSome _ l v _ hn).trans h.dataLevel,
    (s.setValue_levelAt_isSome _ l v _ hn).trans h.clkLevel⟩

theorem State.Wired.lineWrite_levels (h : s.Wired) (ok : s.fail.fails s.calls = false) (w : Write) :
    (s.lineWrite w.line w.value).1.levels = w.drive s.levels := by
  obtain ⟨st, l, v⟩ := w
  have hline : (s.lineWrite l v).1.line = setLevel (s.cfg.lineNo l) v s.line := by
    rw [← h.lineNo_eq l]
    simp [State.lineWrite, ok]
  have hself : (s.lineWrite l v).1.levelOf (s.cfg.lineNo l) = v := by
    rw [State.levelOf, hline, levelAt_setLevel_self]
    rfl
  cases l with
  | data =>
    refine Prod.ext hself (State.levelOf_of_isSome ?_ h.clkLevel)
    rw [hline]
    exact levelAt_setLevel_ne _ _ h.distinct.symm
  | clk =>
    refine Prod.ext (State.levelOf_of_isSome ?_ h.dataLevel) hself
    rw [hline]
    exact levelAt_setLevel_ne _ _ h.distinct

theorem State.HistCurrent.dropLast_concat (h : s.HistCurrent) : s.hist.dropLast ++ [s.levels] = s.hist :=
  List.dropLast_append_getLast? _ h

/-- A write adds the levels after it to a begun HIST. -/
theorem State.HistCurrent.lineWrite (h : s.HistCurrent) (l : Line) (v : Bit) :
    (s.lineWrite l v).1.hist = s.hist ++ [(s.lineWrite l v).1.levels] := by
  have hne : s.hist ≠ [] := fun hnil => by simp [State.HistCurrent, hnil] at h
  exact if_neg hne

/-- Performed writes, none failing, put their waveform on HIST. -/
theorem State.runWrites_hist (hw : s.Wired) (hh : s.HistCurrent) (ws : List Write) (hf : s.NoFail ws.length) :
    (State.endWrites (s.runWrites ws)).hist = s.hist.dropLast ++ waveform s.levels ws := by
  induction ws generalizing s with
  | nil => exact hh.dropLast_concat.symm
  | cons w ws ih =>
    have ok : s.fail.fails s.calls = false := hf 0 (Nat.succ_pos _)
    have hadd := hh.lineWrite w.line w.value
    have hcur : (s.lineWrite w.line w.value).1.HistCurrent := by
      rw [State.HistCurrent, hadd, List.getLast?_concat]
    have hrest : (s.lineWrite w.line w.value).1.NoFail ws.length := fun k hk => by
      have hnext := hf (k + 1) (Nat.succ_lt_succ hk)
      rwa [← Nat.add_assoc, Nat.add_right_comm] at hnext
    rw [State.runWrites_ok w ws ok, ih (hw.lineWrite ..) hcur hrest, hadd, List.dropLast_concat,
      hw.lineWrite_levels ok, waveform, ← hh.dropLast_concat]
    simp

/-- A complete transmission adds the waveform of R115's pseudocode. -/
theorem State.transmit_histSince (hw : s.Wired) (hh : s.HistCurrent) (hf : s.NoFail 906) :
    histSince s s.transmit = waveform s.levels (protocolWrites s.pix) := by
  have hlen : (protocolWrites s.pix).length = 906 := by simp [protocolWrites_eq_numbered, numberedWrites]
  rw [histSince, s.transmit_eq_endWrites, State.runWrites_hist hw hh _ (hlen ▸ hf), ← List.length_dropLast,
    List.drop_left]

end Recorder

/-! ## What the chain samples of a waveform (44_gpio_sim.md R166 to R168, 42_transmit.md R128, R135) -/

/-- The edges of a waveform, write by write. -/
theorem overEdges_waveform {α : Type} (f : Bit × Bit → Bit × Bit → List α) (a : Bit × Bit) (w : Write)
    (ws : List Write) :
    overEdges f (waveform a (w :: ws)) = f a (w.drive a) ++ overEdges f (waveform (w.drive a) ws) := by
  cases ws <;> rfl

section Waveform
variable {st : Stage} {ws : List Write}

/-- Writing the data line is no clock edge. -/
theorem samples_dataWrite (d c v : Bit) :
    samples (waveform (d, c) (⟨st, .data, v⟩ :: ws)) = samples (waveform (v, c) ws) := by
  rw [samples, overEdges_waveform]
  cases c <;> rfl

theorem clockEdges_dataWrite (d c v : Bit) :
    clockEdges (waveform (d, c) (⟨st, .data, v⟩ :: ws)) = clockEdges (waveform (v, c) ws) := by
  rw [clockEdges, overEdges_waveform]
  cases c <;> rfl

/-- A pulse from clock low is a rising edge, which samples the data line, and a falling one; from clock high the
rising edge is lacking (42_transmit.md R135). -/
theorem samples_pulseWrites (d c : Bit) : samples (waveform (d, c) (pulseWrites st ++ ws)) =
    (if c then [] else [d]) ++ samples (waveform (d, false) ws) := by
  rw [samples, pulseWrites, List.cons_append, overEdges_waveform, List.cons_append, overEdges_waveform]
  cases c <;> rfl

theorem clockEdges_pulseWrites (d c : Bit) : clockEdges (waveform (d, c) (pulseWrites st ++ ws)) =
    (if c then [false] else [true, false]) ++ clockEdges (waveform (d, false) ws) := by
  rw [clockEdges, pulseWrites, List.cons_append, overEdges_waveform, List.cons_append, overEdges_waveform]
  cases c <;> rfl

end Waveform

/-- Writes that take the lines from clock low and data `d` to clock low again and data `e`, with a pulse for each of
`bits`, the data line at that bit (42_transmit.md R117, R129). -/
inductive Sends : Bit → List Write → List Bit → Bit → Prop
  | nil {d : Bit} : Sends d [] [] d
  | data {d e v : Bit} {st : Stage} {ws : List Write} {bits : List Bit} (rest : Sends v ws bits e) :
    Sends d (⟨st, .data, v⟩ :: ws) bits e
  | pulse {d e : Bit} {st : Stage} {ws : List Write} {bits : List Bit} (rest : Sends d ws bits e) :
    Sends d (pulseWrites st ++ ws) (d :: bits) e

/-- The clock edges of `n` pulses. -/
def pulseEdges (n : Nat) : List Bool := (List.replicate n [true, false]).flatten

section Sending
variable {d e : Bit} {ws vs : List Write} {bits cs : List Bit}

theorem Sends.samples_eq (h : Sends d ws bits e) : samples (waveform (d, false) ws) = bits := by
  induction h with
  | nil => rfl
  | data rest ih => rw [samples_dataWrite, ih]
  | pulse rest ih => rw [samples_pulseWrites, ih]; rfl

theorem Sends.clockEdges_eq (h : Sends d ws bits e) :
    clockEdges (waveform (d, false) ws) = pulseEdges bits.length := by
  induction h with
  | nil => rfl
  | data rest ih => rw [clockEdges_dataWrite, ih]
  | pulse rest ih => rw [clockEdges_pulseWrites, ih]; rfl

theorem Sends.append {g : Bit} (h : Sends d ws bits e) (k : Sends e vs cs g) : Sends d (ws ++ vs) (bits ++ cs) g := by
  induction h with
  | nil => exact k
  | data rest ih => exact .data (ih k)
  | pulse rest ih => rw [List.append_assoc]; exact .pulse (ih k)

/-- One part after another, each wherever the one before it leaves the data line. -/
theorem Sends.flatMap {α : Type} {f : α → List Write} {g : α → List Bit} (h : ∀ x d, ∃ e, Sends d (f x) (g x) e)
    (l : List α) (d : Bit) : ∃ e, Sends d (l.flatMap f) (l.flatMap g) e := by
  induction l generalizing d with
  | nil => exact ⟨d, .nil⟩
  | cons x l ih =>
    obtain ⟨e, hx⟩ := h x d
    obtain ⟨g, hl⟩ := ih e
    exact ⟨g, hx.append hl⟩

theorem sends_pulses (st : Stage) (n : Nat) (d : Bit) :
    Sends d (List.replicate n (pulseWrites st)).flatten (List.replicate n d) d := by
  induction n with
  | zero => exact .nil
  | succ n ih => exact .pulse ih

theorem sends_bit (st : Stage) (v d : Bit) : Sends d (bitWrites st v) [v] v := .data (.pulse .nil)

theorem sends_byte (p : Fin 8) (b : Fin 4) (v : Byte) (d : Bit) : ∃ e, Sends d (byteWrites p b v) (bits8 v) e :=
  Sends.flatMap (g := fun v => [v]) (fun v d => ⟨v, sends_bit _ v d⟩) (bits8 v) d

theorem sends_pixel (pix : Vector Pixel 8) (p : Fin 8) (d : Bit) :
    ∃ e, Sends d (pixelWrites pix p) (frame pix p) e :=
  Sends.flatMap (g := fun b => bits8 (wirebyte pix p b)) (fun b d => sends_byte p b _ d) frameBytes d

/-- A transmission begins with the data line low and a pulse, and the rest of it sends the rest of BITS
(42_transmit.md R120, R128). -/
theorem protocolWrites_sends (pix : Vector Pixel 8) : ∃ ws bits e,
    protocolWrites pix = ⟨.sof, .data, false⟩ :: (pulseWrites .sof ++ ws) ∧ bitString pix = false :: bits ∧
      Sends false ws bits e := by
  obtain ⟨e, hpixels⟩ := Sends.flatMap (sends_pixel pix) chain false
  have heof : Sends e eofWrites (List.replicate 36 false) false := .data (sends_pulses .eof 36 false)
  exact ⟨_, _, _, rfl, rfl, ((sends_pulses .sof 31 false).append hpixels).append heof⟩

end Sending

/-- Falling edges are counted from the first rising one on (44_gpio_sim.md R167). -/
theorem pulses_of_clockEdges {hist : List (Bit × Bit)} {n : Nat}
    (h : clockEdges hist = pulseEdges n ∨ clockEdges hist = false :: pulseEdges n) : pulses hist = n := by
  have hdrop : (clockEdges hist).dropWhile (!·) = pulseEdges n := by
    obtain h | h := h <;> rw [h] <;> cases n <;> rfl
  rw [pulses, hdrop]
  simp [pulseEdges, List.count_flatten]

section Transmissions
variable {s : State}

/-- Started with the clock low (42_transmit.md R128). -/
theorem State.transmit_samples_of_low (hw : s.Wired) (hh : s.HistCurrent) (hc : s.levels.2 = false)
    (hf : s.NoFail 906) :
    samples (histSince s s.transmit) = bitString s.pix ∧ pulses (histSince s s.transmit) = 324 := by
  obtain ⟨ws, bits, e, hws, hbits, h⟩ := protocolWrites_sends s.pix
  have hall : Sends s.levels.1 (protocolWrites s.pix) (bitString s.pix) e := by
    rw [hws, hbits]
    exact .data (.pulse h)
  have hstart : s.levels = (s.levels.1, false) := Prod.ext rfl hc
  rw [State.transmit_histSince hw hh hf, hstart]
  refine ⟨hall.samples_eq, pulses_of_clockEdges (.inl ?_)⟩
  rw [hall.clockEdges_eq, bitString_length]

/-- Started with the clock high, the first pulse has no rising edge (42_transmit.md R135). -/
theorem State.transmit_samples_of_high (hw : s.Wired) (hh : s.HistCurrent) (hc : s.levels.2 = true)
    (hf : s.NoFail 906) :
    samples (histSince s s.transmit) = (bitString s.pix).tail ∧ pulses (histSince s s.transmit) = 323 := by
  obtain ⟨ws, bits, e, hws, hbits, h⟩ := protocolWrites_sends s.pix
  have hstart : s.levels = (s.levels.1, true) := Prod.ext rfl hc
  have hlen : bits.length = 323 := by simpa [hbits] using bitString_length s.pix
  rw [State.transmit_histSince hw hh hf, hstart, hws]
  refine ⟨?_, pulses_of_clockEdges (.inr ?_)⟩
  · rw [samples_dataWrite, samples_pulseWrites, h.samples_eq, hbits]; rfl
  · rw [clockEdges_dataWrite, clockEdges_pulseWrites, h.clockEdges_eq, hlen]; rfl

end Transmissions

/-- The zero bits at the two ends of BITS (42_transmit.md R120). -/
theorem bitString_ends (pix : Vector Pixel 8) :
    (bitString pix).take 32 = List.replicate 32 false ∧ (bitString pix).drop 288 = List.replicate 36 false := by
  have hlen : (List.replicate Config.sofPulses false ++ chain.flatMap (frame pix)).length = 288 := by
    simp [chain]
  exact ⟨by rw [bitString, List.append_assoc]; exact List.take_left' List.length_replicate, List.drop_left' hlen⟩

/-- Settles O29: the pseudocode's pulses, one for each bit of BITS, stand on HIST. -/
theorem transmitSampledStreamIsBits : Obligations.TransmitSampledStreamIsBits := by
  intro s hu hw hh hc hf
  obtain ⟨hsamples, hpulses⟩ := State.transmit_samples_of_low hw hh hc hf
  obtain ⟨htake, hdrop⟩ := bitString_ends s.pix
  have hlevel (l : Line) : levelAt (s.cfg.lineNo l) s.transmit.line = some false := by
    rw [← hw.lineNo_eq]
    exact State.transmit_levelAt hf (by rw [hw.lineNo_eq, hw.lineNo_eq]; exact hw.distinct) l
  exact ⟨_, exec_transmit_of_usable hu, hsamples, hpulses, bitString_length s.pix, htake, hdrop, hlevel .data,
    hlevel .clk⟩

/-- Settles O30: the same writes, of which the first pulse is not sampled. -/
theorem transmitClockHighLosesOnePulse : Obligations.TransmitClockHighLosesOnePulse := by
  intro s hu hw hh hc hf
  obtain ⟨hsamples, hpulses⟩ := State.transmit_samples_of_high hw hh hc hf
  exact ⟨_, exec_transmit_of_usable hu, (State.transmit_sent hf).1, hsamples, hpulses⟩

end Sys2Proof.Machine

/-! # Acceptance, construction and teardown (43_lifecycle.md)

Layers: what each format of instruction asks of the lifecycle state; CONSTRUCT up to its first failing call; the
last part of TEARDOWN; the obligations, each after the layer it needs. -/

namespace Sys2Proof.Machine

/-! ## Acceptance by lifecycle state (R151, 10_state.md R17, R20) -/

section Acceptance
variable {s t : State} {i : Instr}

/-- In an idle block only LIFE can keep out a command that needs a Driver (R151). -/
theorem State.whenLive_eq_notAccepted_iff (hb : s.txBusy = false) :
    s.whenLive (.next t) = .refused .notAccepted ↔ s.life ≠ .live := by
  rw [State.whenLive, State.whenIdle_of_idle hb]
  split <;> simp [*]

theorem State.whenPixelsExist_eq_noPixel_iff :
    s.whenPixelsExist (.next t) = .refused .noPixel ↔ s.life ≠ .live := by
  rw [State.whenPixelsExist]
  split <;> simp [*]

theorem State.sendFrame_eq_notInTransmission_iff {n : Nat} {due : Bool} :
    s.sendFrame n due = .refused .notInTransmission ↔ ¬ (s.txBusy = true ∧ due = true) := by
  rw [State.sendFrame, ← Bool.and_eq_true]
  split <;> simp [*]

/-- CONSTRUCT has a next state in VOID, whatever its calls answer (R141, R143). -/
theorem exec_construct_eq_whenVoid (cot : Bit) (s : State) : ∃ t, exec (.construct cot) s = s.whenVoid (.next t) := by
  change ∃ t, execConstruct cot s = _
  rw [execConstruct_eq]
  split
  · exact ⟨_, rfl⟩
  · split
    · exact ⟨_, rfl⟩
    · split <;> exact ⟨_, rfl⟩

theorem exec_construct_eq_notAccepted_iff (hb : s.txBusy = false) (cot : Bit) :
    exec (.construct cot) s = .refused .notAccepted ↔ s.life ≠ .void := by
  obtain ⟨t, ht⟩ := exec_construct_eq_whenVoid cot s
  rw [ht, State.whenVoid, State.whenIdle_of_idle hb]
  split <;> simp [*]

/-- The other D-format commands have a next state in LIVE. -/
theorem exec_eq_whenLive (hf : i.format = .d) (hc : ¬ ∃ cot, i = .construct cot) (s : State) :
    ∃ t, exec i s = s.whenLive (.next t) := by
  cases i with
  | construct cot => exact absurd ⟨cot, rfl⟩ hc
  | getpix index => simp only [exec, execGetpix]; split <;> exact ⟨_, rfl⟩
  | setpix index r g b => simp only [exec, execSetpix]; split <;> exact ⟨_, rfl⟩
  | transmit | setall | clrall | teardown => exact ⟨_, rfl⟩
  | _ => cases hf

theorem exec_eq_notAccepted_iff (hf : i.format = .d) (hc : ¬ ∃ cot, i = .construct cot) (hb : s.txBusy = false) :
    exec i s = .refused .notAccepted ↔ s.life ≠ .live := by
  obtain ⟨t, ht⟩ := exec_eq_whenLive hf hc s
  rw [ht, State.whenLive_eq_notAccepted_iff hb]

/-- In an idle block a P-format word asks for its pixel and for nothing else. -/
theorem exec_eq_whenPixelsExist (hf : i.format = .p) (hb : s.txBusy = false) :
    ∃ t, exec i s = s.whenPixelsExist (.next t) := by
  cases i with
  | serbytes => exact ⟨_, rfl⟩
  | getrgb | getrgbl | setrgb | setbrt | setrgbl | clr => exact ⟨_, State.whenIdle_of_idle hb⟩
  | _ => cases hf

/-- In an idle block every call on the collaborator is made (44_gpio_sim.md R157 to R164). -/
theorem exec_g_next (hf : i.format = .g) (hb : s.txBusy = false) : ∃ t, exec i s = .next t := by
  cases i with
  | openchip | reqline | release => exact ⟨_, State.whenIdle_of_idle hb⟩
  | setval => exact ⟨_, rfl⟩
  | _ => cases hf

/-- The level of a pixel's frame, read from the byte on the wire (30_encoding.md R62). -/
theorem or_marker_eq_packBrt_iff {brt : Byte} {v : Level5} :
    brt ||| Config.marker = packBrt v ↔ v = levelOfBrt brt := by
  rw [← packBrt_levelOfBrt]
  exact ⟨fun h => by simpa using (congrArg levelOfBrt h).symm, fun h => h ▸ rfl⟩

/-- A frame is due at its pixel's first write, where its fields are the pixel's (log 9). -/
theorem State.frameDue_iff {v : Level5} {b g r : Byte} {p : Fin 8} : s.frameDue v b g r p = true ↔
    s.seq = 65 + 96 * p.val ∧
      Instr.ledframe v b g r = .ledframe (levelOfBrt s.pix[p].brt) s.pix[p].b s.pix[p].g s.pix[p].r := by
  simp only [State.frameDue, wirebyte, Bool.and_eq_true, beq_iff_eq, or_marker_eq_packBrt_iff, Instr.ledframe.injEq,
    and_assoc, eq_comm (a := b), eq_comm (a := g), eq_comm (a := r)]

/-- The running transmission sends the wire frame `i` next (30_encoding.md R60). -/
def State.FrameNext (s : State) (i : Instr) : Prop :=
  i = .sof ∧ s.seq = 0 ∨ i = .eof ∧ s.seq = 833 ∨ ∃ p : Fin 8, s.seq = 65 + 96 * p.val ∧
    i = .ledframe (levelOfBrt s.pix[p].brt) s.pix[p].b s.pix[p].g s.pix[p].r

theorem exec_frame_eq_notInTransmission_iff (hf : i.format = .w) :
    exec i s = .refused .notInTransmission ↔ ¬ (s.txBusy = true ∧ s.FrameNext i) := by
  cases i with
  | sof =>
    change s.sendFrame 65 (s.seq == 0) = _ ↔ _
    simp [State.sendFrame_eq_notInTransmission_iff, State.FrameNext]
  | eof =>
    change s.sendFrame 73 (s.seq == 833) = _ ↔ _
    simp [State.sendFrame_eq_notInTransmission_iff, State.FrameNext]
  | ledframe v b g r =>
    change s.sendFrame 96 (chain.any (s.frameDue v b g r)) = _ ↔ _
    simp [State.sendFrame_eq_notInTransmission_iff, State.FrameNext, State.frameDue_iff, mem_chain]
  | _ => cases hf

end Acceptance

/-- Settles O10: each format of instruction asks one thing of the state, and answers a next state where it has it. -/
theorem lifecycleDecidesAcceptance : Obligations.LifecycleDecidesAcceptance := by
  refine ⟨fun i s hf hb => ?_, fun i s hf hb => ?_, fun i s => exec_g_next, fun i s =>
    exec_frame_eq_notInTransmission_iff⟩
  · by_cases hc : ∃ cot, i = .construct cot
    · obtain ⟨cot, rfl⟩ := hc
      have h := exec_construct_eq_notAccepted_iff hb cot
      exact ⟨fun hv => by simp [h, hv], fun hl => by simp [h, hl], fun hd => by simp [h, hd]⟩
    · have h := exec_eq_notAccepted_iff hf hc hb
      exact ⟨fun hv => by simp [h, hv, hc], fun hl => by simp [h, hl, hc], fun hd => by simp [h, hd]⟩
  · obtain ⟨t, ht⟩ := exec_eq_whenPixelsExist hf hb
    rw [ht, State.whenPixelsExist_eq_noPixel_iff]

/-! ## A CONSTRUCT that succeeds (R141, R144, R152) -/

theorem State.becomeLive_pix (cot : Bit) (s : State) : (s.becomeLive cot).pix =
    Vector.replicate 8 ⟨0, 0, 0, 0xE0 ||| BitVec.ofNat 8 s.cfg.defaultLevel5.toNat⟩ := by
  rw [← defaultPixel_eq]; rfl

/-- Settles O44: the three calls succeed, and claim the two lines one after the other. -/
theorem constructSucceeds : Obligations.ConstructSucceeds := by
  intro cot s hb hv hne hd hc hdf hcf hf
  have hexec := execConstruct_of_constructible hb hv ⟨hne, hd, hc, hdf, hcf, hf⟩ cot
  refine ⟨_, hexec, State.becomeLive_pix .., rfl, rfl, rfl, rfl, rfl, rfl, rfl, rfl, fun n => ?_, ?_, ?_,
    fun n hnd hnc => ?_, rfl, rfl, rfl, rfl, ⟨rfl, rfl, rfl, rfl, rfl, rfl, rfl⟩⟩
  · change n ∈ insertClaim s.cfg.clkLine (insertClaim s.cfg.dataLine s.claimed) ↔ _
    rw [mem_insertClaim, mem_insertClaim]
    tauto
  · exact (levelAt_setLevel_ne _ _ hne).trans (levelAt_setLevel_self ..)
  · exact levelAt_setLevel_self ..
  · exact (levelAt_setLevel_ne _ _ hnc).trans (levelAt_setLevel_ne _ _ hnd)

/-- Settles O52: of the ways a CONSTRUCT is executed only the successful one leaves VOID. -/
theorem newDriverKeepsOnlyTheRecorder : Obligations.NewDriverKeepsOnlyTheRecorder := by
  refine fun s => ⟨rfl, rfl, rfl, ⟨rfl, rfl, rfl, rfl, rfl, rfl⟩, fun cot t h hl => ?_⟩
  cases exec_executed h with
  | constructFails _ hv hu => exact absurd ((hu.sameDriver.life.trans hv).symm.trans hl) nofun
  | constructs =>
    refine ⟨s.newDriver.constructClk_trace, rfl, ?_⟩
    rw [State.becomeLive_pix, State.constructClk_cfg]
    rfl
  | pixels hu => exact absurd hu.live nofun
  | frame hw => cases hw

/-! ## CONSTRUCT up to its first failing call (R142, R143) -/

section FailedConstruction
variable {s : State}

/-- A request that cannot be met, or whose call fails, is only counted (44_gpio_sim.md R160). -/
theorem State.requestLine_of_not_ok {n : Nat} (h : s.Requestable n → s.fail.fails s.calls = true) (v : Bit)
    (label : String) : s.requestLine n v label = ({ s with calls := s.calls + 1 }, false) := by
  have hbad : (s.requestLine n v label).2 = false := by
    rw [Bool.eq_false_iff, Ne, State.requestLine_ok_iff]
    rintro ⟨hr, ok⟩
    exact absurd (ok.symm.trans (h hr)) nofun
  exact Prod.ext (State.requestLine_fail hbad) hbad

/-- HIST does not begin unless the clock line is held beside the data line (44_gpio_sim.md R165). -/
theorem State.startHist_of_clk_not_held (h : s.cfg.dataLine ≠ s.cfg.clkLine → s.held s.cfg.clkLine = false) :
    s.startHist = s := by
  unfold State.startHist
  split
  · next hc =>
    obtain ⟨-, hne, -, hclk⟩ := hc
    exact absurd (hclk.symm.trans (h hne)) nofun
  · rfl

theorem State.constructOpen_of_ok (ok : s.fail.fails s.calls = false) :
    s.constructOpen = { s with calls := s.calls + 1, chipOpen := true } := by
  rw [State.constructOpen, State.openChip_state, ok]; rfl

theorem State.constructOpen_of_bad (bad : s.fail.fails s.calls = true) :
    s.constructOpen = { s with calls := s.calls + 1 } := by
  rw [State.constructOpen, State.openChip_state, bad]; rfl

theorem State.constructData_of_bad (ok : s.fail.fails s.calls = false)
    (bad : s.cfg.numLines ≤ s.cfg.dataLine ∨ s.cfg.dataLine ∈ s.claimed ∨ s.fail.fails (s.calls + 1) = true) :
    s.constructData = ({ s with calls := s.calls + 2, chipOpen := true }, false) := by
  rw [State.constructData, State.constructOpen_of_ok ok, State.requestLine_of_not_ok]
  rintro ⟨-, hvalid, hfree⟩
  exact (bad.resolve_left hvalid.not_ge).resolve_left hfree

/-- Claiming the data line leaves the clock line as it was. -/
theorem State.dataClaimed_held_clk (hne : s.cfg.dataLine ≠ s.cfg.clkLine) :
    s.dataClaimed.held s.cfg.clkLine = s.held s.cfg.clkLine := by
  rw [Bool.eq_iff_iff, State.held_iff, State.held_iff]
  simp [State.dataClaimed, levelAt_setLevel_ne _ _ hne.symm, hne.symm]

/-- The data line is claimed; HIST begins only where somebody held the clock line. -/
theorem State.constructData_of_ok (hf : s.NoFail 2) (hd : s.cfg.dataLine < s.cfg.numLines)
    (hdf : s.cfg.dataLine ∉ s.claimed) : ∃ hs,
    s.constructData = ({ s.dataClaimed with hist := hs }, true) ∧ (s.held s.cfg.clkLine = false → hs = s.hist) := by
  have hreq := State.requestLine_of_requestable (s := { s with calls := s.calls + 1, chipOpen := true })
    ⟨rfl, hd, hdf⟩ (hf 1 (by decide)) Config.initData s.cfg.label
  have heq : s.constructData = (s.dataClaimed.startHist, true) := by
    rw [State.constructData, State.constructOpen_of_ok (hf 0 (by decide)), hreq]; rfl
  obtain ⟨hs, hstart, -⟩ := s.dataClaimed.startHist_eq
  refine ⟨hs, by rw [heq, hstart], fun hclk => ?_⟩
  have hkept : s.dataClaimed.startHist = s.dataClaimed :=
    State.startHist_of_clk_not_held fun hne => (State.dataClaimed_held_clk (s := s) hne).trans hclk
  exact congrArg State.hist (hstart.symm.trans hkept)

/-- The third call fails, also where the clock line is the data line, which is claimed by then. -/
theorem State.constructClk_of_bad (hf : s.NoFail 2) (hd : s.cfg.dataLine < s.cfg.numLines)
    (hdf : s.cfg.dataLine ∉ s.claimed) (bad : s.cfg.numLines ≤ s.cfg.clkLine ∨ s.cfg.clkLine ∈ s.claimed ∨
      s.cfg.clkLine = s.cfg.dataLine ∨ s.fail.fails (s.calls + 2) = true) : ∃ hs,
    s.constructData.2 = true ∧ s.constructClk = ({ s.dataClaimed with calls := s.calls + 3, hist := hs }, false) ∧
      (s.held s.cfg.clkLine = false → hs = s.hist) := by
  obtain ⟨hs, heq, hhist⟩ := State.constructData_of_ok hf hd hdf
  refine ⟨hs, by rw [heq], ?_, hhist⟩
  rw [State.constructClk, heq, State.requestLine_of_not_ok]
  · rfl
  · rintro ⟨-, hvalid, hfree⟩
    obtain ⟨hother, hclaimed⟩ : s.cfg.clkLine ≠ s.cfg.dataLine ∧ s.cfg.clkLine ∉ s.claimed := by
      simpa [State.dataClaimed] using hfree
    exact ((bad.resolve_left hvalid.not_ge).resolve_left hclaimed).resolve_left hother

/-- Releasing a line right after its request leaves CLAIMED as it was. -/
theorem removeClaim_insertClaim {n : Nat} {claimed : List Nat} (h : n ∉ claimed) :
    removeClaim n (insertClaim n claimed) = claimed := by
  induction claimed with
  | nil => simp [insertClaim, removeClaim]
  | cons m rest ih =>
    obtain ⟨hm, hrest⟩ : n ≠ m ∧ n ∉ rest := by simpa using h
    have hkept : removeClaim n (m :: rest) = m :: removeClaim n rest := List.filter_cons_of_pos (by simpa using hm.symm)
    have hfree : removeClaim n rest = rest := List.filter_eq_self.2 fun k hk => by
      simpa using fun e : k = n => hrest (e ▸ hk)
    rw [insertClaim, if_neg hm]
    split
    · rw [removeClaim, List.filter_cons_of_neg (by simp), ← removeClaim, hkept, hfree]
    · rw [removeClaim, List.filter_cons_of_pos (by simpa using hm.symm), ← removeClaim, ih hrest]

/-- After `n` of CONSTRUCT's calls, no line claimed in addition. -/
def State.afterCalls (s : State) (n : Nat) (line : List (Nat × Bit)) (hist : List (Bit × Bit)) : State :=
  { s with calls := s.calls + n, chipOpen := if n = 1 then s.chipOpen else true, line := line, hist := hist }

variable (hb : s.txBusy = false) (hv : s.life = .void)
include hb hv

theorem exec_construct_of_chip_bad (bad : s.fail.fails s.calls = true) (cot : Bit) :
    exec (.construct cot) s = .next ((s.afterCalls 1 s.line s.hist).failConstruct .acquireChipError) := by
  change execConstruct cot s = _
  rw [execConstruct_eq, State.whenVoid_of_void hb hv, State.openChip_ok, bad, State.constructOpen_of_bad bad]
  rfl

theorem exec_construct_of_data_bad (ok : s.fail.fails s.calls = false)
    (bad : s.cfg.numLines ≤ s.cfg.dataLine ∨ s.cfg.dataLine ∈ s.claimed ∨ s.fail.fails (s.calls + 1) = true)
    (cot : Bit) : exec (.construct cot) s =
      .next ((s.afterCalls 2 s.line s.hist).failConstruct (.acquireLineError .data)) := by
  change execConstruct cot s = _
  rw [execConstruct_eq, State.whenVoid_of_void hb hv, State.openChip_ok, ok, State.constructData_of_bad ok bad]
  rfl

/-- The data line is released again: it is claimed as little as before, and has no level. -/
theorem exec_construct_of_clk_bad (hf : s.NoFail 2) (hd : s.cfg.dataLine < s.cfg.numLines)
    (hdf : s.cfg.dataLine ∉ s.claimed) (bad : s.cfg.numLines ≤ s.cfg.clkLine ∨ s.cfg.clkLine ∈ s.claimed ∨
      s.cfg.clkLine = s.cfg.dataLine ∨ s.fail.fails (s.calls + 2) = true) (cot : Bit) : ∃ hs,
    exec (.construct cot) s =
      .next ((s.afterCalls 3 (removeLevel s.cfg.dataLine (setLevel s.cfg.dataLine false s.line)) hs).failConstruct
        (.acquireLineError .clk)) ∧ (s.held s.cfg.clkLine = false → hs = s.hist) := by
  obtain ⟨hs, hdata, hclk, hhist⟩ := State.constructClk_of_bad hf hd hdf bad
  have ok : s.fail.fails s.calls = false := hf 0 (by decide)
  refine ⟨hs, ?_, hhist⟩
  change execConstruct cot s = _
  rw [execConstruct_eq, State.whenVoid_of_void hb hv, State.openChip_ok, ok, hdata, hclk, State.releaseLine]
  simp [State.dataClaimed, State.afterCalls, removeClaim_insertClaim hdf]

end FailedConstruction

/-- Settles O45: after the first failing call the state differs from the one before in CALLS, CHIPOPEN, the data
line's level and HIST alone. -/
theorem constructFailsAtFirstCall : Obligations.ConstructFailsAtFirstCall := by
  intro cot s hb hv e n he
  suffices h : ∃ line hist, exec (.construct cot) s = .next ((s.afterCalls n line hist).failConstruct e) ∧
      (s.held s.cfg.clkLine = false → hist = s.hist) ∧
      ∀ m, m ≠ s.cfg.dataLine → levelAt m line = levelAt m s.line by
    obtain ⟨line, hist, hexec, hhist, hline⟩ := h
    exact ⟨_, hexec, rfl, rfl, hv, rfl, rfl, rfl, rfl, rfl, rfl, hhist, hline, rfl, rfl, rfl, rfl,
      ⟨rfl, rfl, rfl, rfl, rfl, rfl, rfl⟩⟩
  obtain ⟨rfl, rfl, bad⟩ | ⟨rfl, rfl, ok, bad⟩ | ⟨rfl, rfl, ok, ok1, hd, hdf, bad⟩ := he
  · exact ⟨_, _, exec_construct_of_chip_bad hb hv bad cot, fun _ => rfl, fun _ _ => rfl⟩
  · exact ⟨_, _, exec_construct_of_data_bad hb hv ok bad cot, fun _ => rfl, fun _ _ => rfl⟩
  · have hf : s.NoFail 2 := fun k hk => by
      obtain rfl | rfl : k = 0 ∨ k = 1 := by omega
      · exact ok
      · exact ok1
    obtain ⟨hist, hexec, hhist⟩ := exec_construct_of_clk_bad hb hv hf hd hdf bad cot
    exact ⟨_, _, hexec, hhist, fun m hm => (levelAt_removeLevel_ne _ hm).trans (levelAt_setLevel_ne _ _ hm)⟩

/-! ## TEARDOWN (R146 to R149) -/

section Teardown
variable {s u : State}

theorem exec_teardown_of_cot (hu : s.Usable) (hc : s.cot = true) : exec .teardown s = .next s.blank.becomeDead :=
  (State.whenLive_of_usable hu).trans (by rw [State.clearOnTeardown, hc]; rfl)

theorem exec_teardown_of_not_cot (hu : s.Usable) (hc : s.cot = false) : exec .teardown s = .next s.becomeDead :=
  (State.whenLive_of_usable hu).trans (by rw [State.clearOnTeardown, hc]; rfl)

/-- What a TEARDOWN leaves, however its transmission ended: both lines released, the Driver gone, the response Ok
(R146, R148). -/
structure TornDown (s t : State) : Prop where
  out : t.out = .response (.ok .none)
  life : t.life = .dead
  hdata : t.hdata = none
  hclk : t.hclk = none
  cot : t.cot = s.cot
  chipOpen : t.chipOpen = s.chipOpen
  draws : t.draws = s.draws
  claimed : ∀ n, n ∈ t.claimed ↔ n ∈ s.claimed ∧ n ≠ s.lineNo .data ∧ n ≠ s.lineNo .clk
  dataLevel : levelAt (s.lineNo .data) t.line = none
  clkLevel : levelAt (s.lineNo .clk) t.line = none
  lines : ∀ n, n ≠ s.lineNo .data → n ≠ s.lineNo .clk → levelAt n t.line = levelAt n s.line
  seq : t.seq = 0
  idle : t.txBusy = false
  env : SameEnv s t

/-- A level that is gone stays gone. -/
theorem levelAt_removeLevel_of_none {m : Nat} (n : Nat) {line : List (Nat × Bit)} (h : levelAt m line = none) :
    levelAt m (removeLevel n line) = none := by
  by_cases hmn : m = n
  · rw [hmn, levelAt_removeLevel_self]
  · rw [levelAt_removeLevel_ne _ hmn, h]

/-- The last part of TEARDOWN, after whatever line writes. -/
theorem WriteFrame.tornDown_becomeDead (h : WriteFrame s u) : TornDown s u.becomeDead where
  out := rfl
  life := rfl
  hdata := rfl
  hclk := rfl
  cot := h.driver.cot
  chipOpen := h.chipOpen
  draws := h.draws
  claimed n := by
    change n ∈ removeClaim (u.lineNo .clk) (removeClaim (u.lineNo .data) u.claimed) ↔ _
    rw [h.lineNo, h.lineNo, h.claimed, mem_removeClaim, mem_removeClaim, and_assoc]
  dataLevel := by
    rw [← h.lineNo]
    exact levelAt_removeLevel_of_none _ (levelAt_removeLevel_self ..)
  clkLevel := by
    rw [← h.lineNo]
    exact levelAt_removeLevel_self ..
  lines n hd hc := by
    rw [← h.lines n hd hc]
    rw [← h.lineNo] at hd hc
    exact (levelAt_removeLevel_ne _ hc).trans (levelAt_removeLevel_ne _ hd)
  seq := rfl
  idle := rfl
  env := ⟨h.env.cfg, h.env.fail, h.env.lvl, h.env.cell, h.env.lineNumber, h.env.script, h.env.unitPort⟩

/-- The same of the cleared pixels: CLRALL touches nothing else (41_driver_ops.md R107). -/
theorem TornDown.of_clearAll (h : TornDown s.clearAll u) : TornDown s u :=
  { h with env := ⟨h.env.cfg, h.env.fail, h.env.lvl, h.env.cell, h.env.lineNumber, h.env.script, h.env.unitPort⟩ }

/-- The frame of a black pixel at CLEAR_LEVEL (41_driver_ops.md R107, 42_transmit.md R119). -/
theorem bitsToNat_frame_cleared (p : Fin 8) :
    bitsToNat (frame (Vector.replicate 8 ⟨0, 0, 0, 0xE6⟩) p) = 0xE6000000 := by
  simp [bitsToNat_frame]

end Teardown

/-- Settles O49: without the flag only the last part of TEARDOWN is left. -/
theorem teardownWithoutFlagOnlyReleases : Obligations.TeardownWithoutFlagOnlyReleases := by
  intro s hu hc
  rw [exec_teardown_of_not_cot hu hc]
  rfl

/-- Settles O47: the blanking is a TRANSMIT of the cleared pixels that makes all its writes. -/
theorem teardownBlanksAndReleases : Obligations.TeardownBlanksAndReleases := by
  intro s hu hc hf
  obtain ⟨htrace, hcalls, -, hframe⟩ := State.transmit_sent (s := s.clearAll) hf
  have h : TornDown s s.blank.becomeDead := hframe.toWriteFrame.tornDown_becomeDead.of_clearAll
  rw [State.clearAll_pix] at htrace
  exact ⟨_, exec_teardown_of_cot hu hc, h.out, h.life, htrace, hcalls, bitsToNat_frame_cleared, h.hdata, h.hclk,
    h.cot, h.chipOpen, h.draws, h.claimed, h.dataLevel, h.clkLevel, h.lines, h.seq, h.idle, h.env⟩

/-- Settles O48: the failed write ends the TRANSMIT of the cleared pixels, and not the TEARDOWN. -/
theorem teardownSwallowsFailure : Obligations.TeardownSwallowsFailure := by
  intro s f hu hc hf906 hf
  obtain ⟨htrace, hcalls, -, hframe⟩ := State.transmit_aborted (s := s.clearAll) hf hf906
  have h : TornDown s s.blank.becomeDead := hframe.toWriteFrame.tornDown_becomeDead.of_clearAll
  rw [State.clearAll_pix] at htrace
  exact ⟨_, exec_teardown_of_cot hu hc, h.out, h.life, htrace, hcalls, h.hdata, h.hclk, h.cot, h.chipOpen, h.draws,
    h.claimed, h.dataLevel, h.clkLevel, h.lines, h.seq, h.idle, h.env⟩

end Sys2Proof.Machine

/-! # The GPIO collaborator and its recorder (44_gpio_sim.md)

Layers: the four calls, each from the law of its primitive; what it is for a recorder to grow, and that every
operation makes it grow; a sampled stream read back. Each obligation stands after the layer it needs. -/

namespace Sys2Proof.Machine

/-! ## The four calls (R157 to R164) -/

theorem exec_openchip_of_idle {s : State} (hb : s.txBusy = false) :
    exec .openchip s = .next ((s.openChip s.cfg.chipPath).1.returnCall
      (if (s.openChip s.cfg.chipPath).2 then .chipHandle else .fail)) := State.whenIdle_of_idle hb

/-- Settles O53: OPEN opens the chip unless the oracle fails the call. -/
theorem openSetsChipOpen : Obligations.OpenSetsChipOpen := by
  intro s hb
  rw [exec_openchip_of_idle hb, State.openChip_state, State.openChip_ok]
  exact ⟨fun ok => by rw [ok]; rfl, fun bad => by rw [bad]; rfl⟩

/-- HIST is the one field `startHist` writes, and it writes it only where HIST is empty and both lines are held
(R165, log 15). -/
theorem State.startHist_eq_ite (s : State) : s.startHist = { s with
    hist := if s.hist = [] ∧ s.cfg.dataLine ≠ s.cfg.clkLine ∧ s.held s.cfg.dataLine = true ∧
      s.held s.cfg.clkLine = true then [s.levels] else s.hist } := by
  unfold State.startHist
  split <;> rfl

theorem exec_reqline_of_idle {s : State} (hb : s.txBusy = false) (sel : Line) (v : Bit) :
    exec (.reqline sel v) s = .next ((s.requestLine s.lineNumber v s.cfg.label).1.returnCall
      (if (s.requestLine s.lineNumber v s.cfg.label).2 then .lineHandle s.lineNumber else .fail)) :=
  State.whenIdle_of_idle hb

/-- Settles O54: a request that can be met claims its line, and any other is only counted. -/
theorem reqlineClaimsFreeValidLine : Obligations.ReqlineClaimsFreeValidLine := by
  intro sel v s hb
  rw [exec_reqline_of_idle hb]
  constructor
  · intro hr ok
    rw [State.requestLine_of_requestable hr ok, State.startHist_eq_ite]
    exact ⟨_, rfl, rfl, fun n => mem_insertClaim n _ _, levelAt_setLevel_self .., fun _ hn => levelAt_setLevel_ne _ _ hn,
      rfl, rfl, rfl, rfl, rfl, rfl, rfl, hb, ⟨rfl, rfl, rfl, rfl⟩, ⟨rfl, rfl, rfl, rfl, rfl, rfl, rfl⟩⟩
  · intro h
    rw [State.requestLine_of_not_ok fun hr => h.resolve_left (not_not_intro hr)]
    rfl

/-- Settles O55: the line written is the one the handle names, and the recorder takes its levels after the write. -/
theorem setvalDrivesOneLine : Obligations.SetvalDrivesOneLine := by
  intro sel v s
  refine ⟨_, _, rfl, levelAt_setLevel_self .., fun ok => if_neg (by simp [ok]), ?_, rfl, rfl,
    fun n hn => levelAt_setLevel_ne _ _ hn, rfl, rfl, rfl, rfl, rfl, rfl, rfl, ⟨rfl, rfl, rfl, rfl⟩,
    ⟨rfl, rfl, rfl, rfl, rfl, rfl, rfl⟩⟩
  change Output.call (if (!s.fail.fails s.calls) = true then .ok else .fail) = _
  cases s.fail.fails s.calls <;> rfl

/-- Settles O56: the line leaves CLAIMED and LINE, and nothing else does. -/
theorem releaseFreesTheLine : Obligations.ReleaseFreesTheLine := by
  intro sel s hb
  exact ⟨_, State.whenIdle_of_idle hb, rfl, fun n => mem_removeClaim n _ _, levelAt_removeLevel_self ..,
    fun n hn => levelAt_removeLevel_ne _ hn, rfl, rfl, rfl, rfl, rfl, rfl, rfl, hb, ⟨rfl, rfl, rfl, rfl⟩,
    ⟨rfl, rfl, rfl, rfl, rfl, rfl, rfl⟩⟩

/-! ## The recorder only grows (R165) -/

/-- The recorder of `t` continues that of `s`, under the same parameters and oracle. -/
structure RecorderGrows (s t : State) : Prop where
  trace : s.trace <+: t.trace
  hist : s.hist <+: t.hist
  calls : s.calls ≤ t.calls
  cfg : t.cfg = s.cfg
  fail : t.fail = s.fail

section Recorder
variable {s t u : State}

theorem RecorderGrows.refl (s : State) : RecorderGrows s s :=
  ⟨List.prefix_rfl, List.prefix_rfl, le_rfl, rfl, rfl⟩

theorem RecorderGrows.trans (h : RecorderGrows s t) (k : RecorderGrows t u) : RecorderGrows s u :=
  ⟨h.trace.trans k.trace, h.hist.trans k.hist, h.calls.trans k.calls, k.cfg.trans h.cfg, k.fail.trans h.fail⟩

/-! ### The primitives -/

theorem State.openChip_grows (s : State) (path : String) : RecorderGrows s (s.openChip path).1 := by
  rw [State.openChip_state]
  exact { RecorderGrows.refl s with calls := Nat.le_succ _ }

/-- HIST begins only where it was empty. -/
theorem State.startHist_grows (s : State) : RecorderGrows s s.startHist := by
  obtain ⟨hs, heq, rfl | ⟨hempty, -⟩⟩ := s.startHist_eq
  · rw [heq]; exact RecorderGrows.refl s
  · rw [heq]; exact { RecorderGrows.refl s with hist := hempty ▸ List.nil_prefix }

theorem State.requestLine_grows (s : State) (n : Nat) (v : Bit) (label : String) :
    RecorderGrows s (s.requestLine n v label).1 := by
  cases hok : (s.requestLine n v label).2 with
  | false =>
    rw [State.requestLine_fail hok]
    exact { RecorderGrows.refl s with calls := Nat.le_succ _ }
  | true =>
    rw [State.requestLine_success hok]
    exact .trans (t := { s with calls := s.calls + 1, claimed := insertClaim n s.claimed, line := setLevel n v s.line })
      { RecorderGrows.refl s with calls := Nat.le_succ _ } (State.startHist_grows _)

theorem State.setValue_grows (s : State) (n : Nat) (l : Line) (v : Bit) :
    RecorderGrows s (s.setValue n l v).1 where
  trace := List.prefix_append _ _
  hist := by
    rw [State.setValue_hist]
    split
    · next hempty => exact hempty ▸ List.nil_prefix
    · exact List.prefix_append _ _
  calls := Nat.le_succ _
  cfg := rfl
  fail := rfl

/-! ### The transmission -/

theorem State.txStep_grows (s : State) : RecorderGrows s s.txStep := by
  obtain ⟨n, b, o, heq, -⟩ := s.txStep_cases
  rw [heq]
  exact { s.setValue_grows (s.lineNo _) _ _ with }

theorem State.txRun_grows (k : Nat) (s : State) : RecorderGrows s (s.txRun k) := by
  induction k generalizing s with
  | zero => exact .refl s
  | succ k ih =>
    cases hb : s.txBusy with
    | false => rw [State.txRun_idle _ hb]; exact .refl s
    | true => rw [State.txRun_busy _ hb]; exact s.txStep_grows.trans (ih _)

theorem State.transmit_grows (s : State) : RecorderGrows s s.transmit :=
  { s.txAccept.txRun_grows Config.numWrites with }

/-! ### Construction and teardown -/

theorem State.constructOpen_grows (s : State) : RecorderGrows s s.constructOpen := s.openChip_grows _

theorem State.constructData_grows (s : State) : RecorderGrows s s.constructData.1 :=
  s.constructOpen_grows.trans (State.requestLine_grows ..)

theorem State.constructClk_grows (s : State) : RecorderGrows s s.constructClk.1 :=
  s.constructData_grows.trans (State.requestLine_grows ..)

theorem ConstructAborts.grows (h : ConstructAborts s u) : RecorderGrows s u := by
  cases h with
  | chip => exact s.constructOpen_grows
  | data => exact s.constructData_grows
  | clk => exact { s.constructClk_grows with }

theorem State.blank_grows (s : State) : RecorderGrows s s.blank := { s.clearAll.transmit_grows with }

/-- An executed instruction writes the recorder only by the primitives and the line writes above. -/
theorem Executed.grows {i : Instr} (he : Executed s i t) : RecorderGrows s t := by
  cases he with
  | constructFails _ _ hu => exact { hu.grows with }
  | constructs => exact { s.constructClk_grows with }
  | teardown =>
    cases s.cot with
    | false => exact { RecorderGrows.refl s with }
    | true => exact { s.blank_grows with }
  | transmit => exact s.transmit_grows
  | pixels | serbytes | release => exact { RecorderGrows.refl s with }
  | openchip => exact { s.openChip_grows s.cfg.chipPath with }
  | reqline => exact { s.requestLine_grows .. with }
  | setval => exact { s.setValue_grows .. with }
  | frame => exact s.txRun_grows _

theorem step_grows (hs : step s = .next t) : RecorderGrows s t := by
  obtain ⟨u, i, -, -, he⟩ | ⟨-, ⟨-, rfl⟩ | ⟨-, -, rfl⟩ | ⟨-, q, rest, i, -, -, ⟨-, -, -, rfl⟩ | he⟩⟩ :=
    step_next_cases hs
  · exact { (exec_executed he).grows with }
  · exact s.txStep_grows
  · exact .refl _
  · exact { RecorderGrows.refl s with }
  · exact { (exec_executed he).grows with }

end Recorder

/-- Settles O59: what an executed instruction and a write of the transmission keep, every step keeps. -/
theorem recorderOnlyGrows : Obligations.RecorderOnlyGrows := fun _ _ hs =>
  have h := step_grows hs
  ⟨h.trace, h.hist, h.calls, h.cfg, h.fail⟩

/-! ## A sampled stream read back (R169) -/

/-- A stream is well-formed where its zero frames, its length and the marker of each group are right. -/
theorem streamWellFormed_iff (bits : List Bit) : streamWellFormed bits = true ↔
    bits.length = 324 ∧ bits.take 32 = List.replicate 32 false ∧ bits.drop 288 = List.replicate 36 false ∧
      ∀ p, (streamGroup bits p).take 3 = [true, true, true] := by
  simp only [streamWellFormed, Bool.and_eq_true, beq_iff_eq, List.all_eq_true, mem_chain, true_imp_iff, and_assoc]

/-! ### From the pixels to the stream and back -/

/-- The groups of BITS are the frames (42_transmit.md R120). -/
theorem streamGroup_bitString (pix : Vector Pixel 8) (p : Fin 8) : streamGroup (bitString pix) p = frame pix p := by
  fin_cases p <;> rfl

/-- The first byte on the wire begins with the marker (42_transmit.md R118). -/
theorem bits8_or_marker_take (brt : Byte) : (bits8 (brt ||| Config.marker)).take 3 = [true, true, true] := by
  decide +revert

theorem packBrt_bits8_drop (brt : Byte) :
    packBrt (BitVec.ofNat 5 (bitsToNat (((bits8 brt).drop 3).take 5))) = brt ||| Config.marker := by
  decide +revert

/-- Reading a frame gives the pixel's bytes, with the marker that the wire forces on. -/
theorem readGroup_frame (pix : Vector Pixel 8) (p : Fin 8) :
    readGroup (frame pix p) = { pix[p] with brt := pix[p].brt ||| Config.marker } := by
  have hbyte (v : Byte) : BitVec.ofNat 8 (bitsToNat (bits8 v)) = v := by
    rw [bitsToNat_bits8, BitVec.ofNat_toNat, BitVec.setWidth_eq]
  have hbrt : packBrt (BitVec.ofNat 5 (bitsToNat (((frame pix p).drop 3).take 5))) = pix[p].brt ||| Config.marker := by
    refine (packBrt_bits8_drop (pix[p].brt ||| Config.marker)).trans ?_
    rw [BitVec.or_assoc, BitVec.or_self]
  exact (Pixel.mk.injEq ..).mpr ⟨hbyte pix[p].r, hbyte pix[p].g, hbyte pix[p].b, hbrt⟩

theorem or_marker_of_marker {brt : Byte} (h : brt &&& 0xE0 = 0xE0) : brt ||| Config.marker = brt := by
  decide +revert

/-! ### From a stream to the pixels and back -/

/-- A byte's bits are those of the number they are read as. -/
theorem bits8_ofNat_bitsToNat {bits : List Bit} (h : bits.length = 8) :
    bits8 (BitVec.ofNat 8 (bitsToNat bits)) = bits := by
  match bits, h with
  | [b7, b6, b5, b4, b3, b2, b1, b0], _ => decide +revert

/-- Behind the marker stand the five bits of the level they are read as. -/
theorem bits8_packBrt_ofNat_bitsToNat {bits : List Bit} (h : bits.length = 5) :
    bits8 (packBrt (BitVec.ofNat 5 (bitsToNat bits))) = [true, true, true] ++ bits := by
  match bits, h with
  | [b4, b3, b2, b1, b0], _ => decide +revert

/-- The frame of a pixel read from a group with the marker is the group. -/
theorem frame_of_readGroup {pix : Vector Pixel 8} {p : Fin 8} {g : List Bit} (hlen : g.length = 32)
    (hmark : g.take 3 = [true, true, true]) (hp : pix[p] = readGroup g) : frame pix p = g := by
  have hbyte (k : Nat) (hk : k + 8 ≤ 32) :
      bits8 (BitVec.ofNat 8 (bitsToNat ((g.drop k).take 8))) = (g.drop k).take 8 :=
    bits8_ofNat_bitsToNat (by simp only [List.length_take, List.length_drop, hlen]; omega)
  have hlevel : ((g.drop 3).take 5).length = 5 := by simp [hlen]
  have hend : (g.drop 24).take 8 = g.drop 24 := List.take_of_length_le (by simp [hlen])
  simp only [frame, wirebyte, hp, readGroup, List.append_assoc]
  rw [or_marker_of_marker (packBrt_and_marker _), bits8_packBrt_ofNat_bitsToNat hlevel, ← hmark,
    hbyte 8 (by decide), hbyte 16 (by decide), hbyte 24 (by decide), hend, g.drop_take_append_drop 16 8,
    g.drop_take_append_drop 8 8, List.append_assoc, g.drop_take_append_drop 3 5, List.take_append_drop]

/-- The groups, one after another, are the stream between its zero frames. -/
theorem flatMap_streamGroup (bits : List Bit) :
    chain.flatMap (streamGroup bits) ++ bits.drop 288 = bits.drop 32 := by
  have hcut (n : Nat) := bits.drop_take_append_drop n 32
  simp only [chain, streamGroup, List.flatMap_cons, List.flatMap_nil, List.append_nil, List.append_assoc,
    Fin.coe_ofNat_eq_mod, Nat.reduceMod, Nat.reduceMul, Nat.reduceAdd]
  rw [hcut 256, hcut 224, hcut 192, hcut 160, hcut 128, hcut 96, hcut 64, hcut 32]

theorem streamGroup_length {bits : List Bit} (h : bits.length = 324) (p : Fin 8) :
    (streamGroup bits p).length = 32 := by
  simp only [streamGroup, List.length_take, List.length_drop, h]
  omega

/-- Settles O39: each group of BITS is a frame, which reads back as its pixel, and a group with the marker is the
frame of the pixel read from it. -/
theorem sampledStreamReadsBack : Obligations.SampledStreamReadsBack := by
  refine ⟨fun pix => ⟨?_, fun hmark => ?_⟩, fun bits h => ?_⟩
  · obtain ⟨htake, hdrop⟩ := bitString_ends pix
    refine (streamWellFormed_iff _).2 ⟨bitString_length pix, htake, hdrop, fun p => ?_⟩
    rw [streamGroup_bitString]
    exact bits8_or_marker_take pix[p].brt
  · refine Vector.ext fun i hi => ?_
    rw [readStream, Vector.getElem_ofFn, streamGroup_bitString, readGroup_frame, or_marker_of_marker (hmark ⟨i, hi⟩)]
    rfl
  · obtain ⟨hlen, htake, hdrop, hmark⟩ := (streamWellFormed_iff bits).1 h
    have hframe : frame (readStream bits) = streamGroup bits := funext fun p =>
      frame_of_readGroup (streamGroup_length hlen p) (hmark p) (Vector.getElem_ofFn p.isLt)
    rw [bitString, hframe, ← htake, ← hdrop, List.append_assoc, flatMap_streamGroup, List.take_append_drop]

end Sys2Proof.Machine

/-! # The errors and their codes (60_exceptions.md)

Layers: under which stage a write number falls; the response word as a number. Each obligation stands after the
layer it needs. -/

namespace Sys2Proof.Machine

/-! ## The stage of every write (R184, 42_transmit.md R132) -/

/-- Between the zero frames each write is one of the 24 of some byte. -/
theorem stage_cases (n : Nat) :
    (n ≤ 64 ∧ stage n = .sof) ∨
    (∃ (p : Fin 8) (b : Fin 4), 65 + 96 * p.val + 24 * b.val ≤ n ∧ n ≤ 88 + 96 * p.val + 24 * b.val ∧
      stage n = .pixel p b) ∨
    (833 ≤ n ∧ stage n = .eof) := by
  by_cases hsof : n ≤ 64
  · exact .inl ⟨hsof, stage_sof hsof⟩
  by_cases heof : 833 ≤ n
  · exact .inr (.inr ⟨heof, stage_eof heof⟩)
  obtain ⟨p, j, hj, rfl⟩ : ∃ (p : Fin 8) (j : Nat), j < 96 ∧ n = 65 + 96 * p.val + j :=
    ⟨⟨(n - 65) / 96, by omega⟩, (n - 65) % 96, by omega, by dsimp only; omega⟩
  have hb : (Fin.ofNat 4 (j / 24)).val = j / 24 := Nat.mod_eq_of_lt (by omega)
  exact .inr (.inl ⟨p, Fin.ofNat 4 (j / 24), by omega, by omega, stage_pixel p hj⟩)

/-- Settles O34: every write falls under one stage, and the ranges of different stages do not meet. -/
theorem stageOfEveryWrite : Obligations.StageOfEveryWrite := by
  intro n _
  obtain ⟨hn, hs⟩ | ⟨p, b, hlo, hhi, hs⟩ | ⟨hn, hs⟩ := stage_cases n
  · simp only [hs, reduceCtorEq, true_iff, false_iff]
    exact ⟨hn, fun p b => by omega, by omega⟩
  · simp only [hs, reduceCtorEq, false_iff, Stage.pixel.injEq, Fin.ext_iff]
    exact ⟨by omega, fun p' b' => by omega, by omega⟩
  · simp only [hs, reduceCtorEq, true_iff, false_iff]
    exact ⟨by omega, fun p b => by omega, hn⟩

/-! ## The response word (R182, R183, 30_encoding.md R72) -/

theorem Response.word_toNat (r : Response) : r.word.toNat = 0x1000 * r.status.toNat + r.info.toNat := by
  have hzero : (r.status ++ 0#4).toNat = r.status.toNat * 2 ^ 4 := by
    rw [BitVec.toNat_append, BitVec.toNat_ofNat, Nat.zero_mod, Nat.or_zero, Nat.shiftLeft_eq]
  rw [Response.word, toNat_append_byte, hzero]
  omega

/-- The payload of Ok is no part of its word. -/
theorem Response.word_ok (payload : Payload) : (Response.ok payload).word = 0x0000 :=
  BitVec.eq_of_toNat_eq (Response.word_toNat _)

/-- `{p, b}` is the number of the byte, 4p + b, in the low five bits of the stage code, below its kind 01. -/
theorem Response.word_transmitError_pixel (p : Fin 8) (b : Fin 4) :
    (Response.transmitError (.pixel p b)).word = 0x3040 ||| BitVec.ofNat 16 (4 * p.val + b.val) := by
  decide +revert

theorem Response.word_indexError_toNat {index : Nat} (h : index < 256) :
    (Response.indexError index).word.toNat = 0x4000 + index := by
  have hinfo : (Response.indexError index).info.toNat = index := Nat.mod_eq_of_lt h
  rw [Response.word_toNat, hinfo]
  rfl

/-- Settles O35: a stage of a pixel and an index are carried in the info field, and the other words are fixed. -/
theorem responseWordsCarryStatusAndInfo : Obligations.ResponseWordsCarryStatusAndInfo :=
  ⟨Response.word_ok, rfl, rfl, rfl, rfl, rfl, Response.word_transmitError_pixel,
    fun _ => Response.word_indexError_toNat⟩

end Sys2Proof.Machine

/-! # Reset and waiting (70_reset_and_hazards.md) -/

namespace Sys2Proof.Machine

/-- Settles O7: with both ports empty and no write due, a step takes its waiting branch (R207). -/
theorem stepWaitsWithoutCommand : Obligations.StepWaitsWithoutCommand :=
  fun _ => step_of_waiting

/-- Settles O46: the fresh GPIOSIM is constructible, and what the two claims and the default pixels make of it is
`State.reset` (R205). -/
theorem resetStateIsConstructed : Obligations.ResetStateIsConstructed :=
  execConstruct_powerOn_reset

end Sys2Proof.Machine
